-- ==== Sys2Proof/Word.lean ====
section
/-! DEFINITION. The two word types of the machine (spec 00_scope.md R7: 8-bit registers and bus,
16-bit pairs, stack pointer, program counter and addresses). -/

namespace Sys2Proof

/-- The addressable unit and the width of the data bus (R7). -/
abbrev Byte := BitVec 8

/-- A register pair, SP, PC or a bus address (R7). -/
abbrev Word := BitVec 16

end Sys2Proof
end

