-- ==== Sys2Proof/Machine/Bits.lean ====
section
/-! DEFINITION. Bit-field, byte-order and sign-extension helpers (spec 00_scope.md R12, R14, R16). -/

namespace Sys2Proof.Machine

/-- `v[7:0]`. -/
def loByte (v : Word) : Byte := v.setWidth 8

/-- `v[15:8]`. -/
def hiByte (v : Word) : Byte := v.extractLsb' 8 8

/-- `{hi, lo}`, the first-named byte the more significant (R12, R31). -/
def joinBytes (hi lo : Byte) : Word := hi ++ lo

/-- `sext_16(n)`: the displacement byte as a 16-bit two's complement number (R12, R148). -/
def sext16 (n : Byte) : Word := n.signExtend 16

/-- `{0xFF, n}`: an address in the last page of the bus (R146). -/
def highPage (n : Byte) : Word := joinBytes 0xFF n

end Sys2Proof.Machine
end

