-- ==== Sys2Proof/Config.lean ====
section
/-! DEFINITION. The fixed counts of the machine (spec 00_scope.md R8, 10_state.md R62). The values the
spec leaves open and then decides (R10) stand in Sys2Proof/Machine/Params.lean. The spec leaves no value
open without deciding it, so this machine has no opaque free value (notes/assumptions/5.md). -/

namespace Sys2Proof.Config

/-- Bytes in one ROM bank (R9, R85). -/
def romBankBytes : Nat := 0x4000

/-- Bytes in one external RAM bank (R62, R87). -/
def ramBankBytes : Nat := 0x2000

/-- Sprite descriptors in the sprite table (R8). -/
def spriteCount : Nat := 40

/-- Bytes in the sprite table, four a descriptor (R62, R66). -/
def oamBytes : Nat := 160

/-- Pixels in a line (R8). -/
def screenWidth : Nat := 160

/-- Visible lines in a frame (R8). -/
def screenHeight : Nat := 144

end Sys2Proof.Config
end

