-- ==== Sys2Proof/Machine/State.lean ====
section
/-! DEFINITION. The machine's state as plain data, grouped by the block that owns it (spec 10_state.md R45,
R62), the reasons a step can stop, and the state after reset (spec 70_reset_and_hazards.md R440). -/

namespace Sys2Proof.Machine

/-- Why the machine stops: the three typed fatal conditions of spec 60_exceptions.md R340. All are the
spec's own stops, so stopping is exact (safe). -/
inductive Fault where
  /-- `ReservedOpcode`, with the opcode byte (R341). Raised by the eleven reserved opcodes (R327) and by
  STOP (R323). Safe: the spec's own fatal condition. -/
  | reservedOpcode (op : Byte)
  /-- `UnsupportedBankController`, with CART_TYPE (R342). Raised at configuration (`State.configure`), never by
  an instruction. Safe: the spec's own fatal condition. -/
  | unsupportedBankController (cartType : Byte)
  /-- `BankIndexOutOfRange`, with the rejected index (R343). Raised by a bus write into 0x2000 to 0x5FFF on a
  banked cartridge. Safe: the spec's own fatal condition. -/
  | bankIndexOutOfRange (index : Nat)
  deriving DecidableEq, Repr

/-- Why the model gives no meaning. -/
inductive Refusal where
  /-- An instruction without a meaning, by its mnemonic. Raised by no arm of `exec`: every instruction of
  the table has its meaning. Safe. -/
  | notModelled (mnemonic : String)
  deriving DecidableEq, Repr

/-- The four flags of F (R33, R34). F's low nibble is hardwired to zero and so is not stored (R33). -/
structure Flags where
  /-- Zero, F[7]. -/
  z : Bool
  /-- Subtraction, F[6]. -/
  n : Bool
  /-- Half-Carry, F[5]. -/
  h : Bool
  /-- Carry, F[4]. -/
  c : Bool
  deriving DecidableEq, Repr

/-- The CPU's registers and control state (R30, R38, R39, R41 to R43). -/
structure Cpu where
  /-- Accumulator. -/
  a : Byte
  /-- The flags register F. -/
  f : Flags
  b : Byte
  c : Byte
  d : Byte
  e : Byte
  h : Byte
  l : Byte
  /-- Stack pointer (R38). -/
  sp : Word
  /-- Program counter (R39). -/
  pc : Word
  /-- Interrupt-master-enable (R41). -/
  ime : Bool
  /-- HALTED (R42). -/
  halted : Bool
  /-- `m`, the machine cycles the last CPU step reported; the clock edges are `4 * m` (R43). -/
  mcycles : Nat
  deriving DecidableEq, Repr

/-- A store of bytes by offset (R62). -/
abbrev Memory := List Host.Cell

/-- A 2-bit shade, what a palette entry holds (R59, R67). -/
abbrev Shade := BitVec 2

/-- The frame buffer: rendered lines by line number, each 160 shades (R67). -/
abbrev Frame := List (Nat × List Shade)

/-- Memory-management unit: interrupt masks, bank controller, RAM arrays, stubs (R45, R51, R52, R61, R62). -/
structure Mmu where
  /-- IE, 0xFFFF: the 5-bit enable mask (R51). -/
  ie : BitVec 5
  /-- IF, 0xFF0F: the 5-bit request mask (R52). -/
  irq : BitVec 5
  /-- Active ROM bank (R61). -/
  romBank : BitVec 7
  /-- Active external RAM bank (R61). -/
  ramBank : BitVec 2
  /-- External RAM enable (R61). -/
  ramEnable : Bool
  /-- Banking mode: false ROM-banking, true RAM-banking (R61). -/
  bankMode : Bool
  /-- External RAM, RAM_BANKS * 0x2000 bytes (R62). -/
  eram : Memory
  /-- Working RAM, 0x2000 bytes (R62). -/
  wram : Memory
  /-- Zero-page RAM, 0x7F bytes (R62). -/
  hram : Memory
  /-- Serial stub byte 0xFF01 (R95). -/
  sb : Byte
  /-- Serial stub byte 0xFF02 (R95). -/
  sc : Byte
  /-- Audio stub, 0x30 bytes from 0xFF10 (R96). -/
  audio : Memory
  deriving DecidableEq, Repr

/-- The timer (R47 to R50, R64). -/
structure Timer where
  /-- The 16-bit free-running divider; DIV is its high byte (R47). -/
  div16 : Word
  tima : Byte
  tma : Byte
  /-- TAC: enable in bit 2, rate select in bits 1:0 (R50). -/
  tac : BitVec 3
  /-- The delayed reload is due at the next advance (R64). -/
  overflowPending : Bool
  deriving DecidableEq, Repr

/-- The four phases of the picture processing unit (R63). -/
inductive Phase where
  | oamScan
  | vramScan
  | hblank
  | vblank
  deriving DecidableEq, Repr

/-- The picture processing unit (R53 to R60, R62, R63, R67). The tile cache and the sprite descriptors are
functions of `vram` and `oam` (R65, R66) and are not stored. -/
structure Ppu where
  lcdc : Byte
  /-- STAT bits 6:3 (R54). -/
  statEn : BitVec 4
  scy : Byte
  scx : Byte
  lyc : Byte
  dma : Byte
  bgp : Byte
  obp0 : Byte
  obp1 : Byte
  wy : Byte
  wx : Byte
  phase : Phase
  /-- Clock edges spent in the current phase, or in the current vertical-blank line slot (R63). -/
  dot : Nat
  /-- The scanline index LY reads, 0 to 153 (R56, R63). -/
  line : Byte
  /-- Video memory, 0x2000 bytes (R62). -/
  vram : Memory
  /-- Sprite table, 0xA0 bytes (R62). -/
  oam : Memory
  /-- Frame buffer (R67). -/
  frame : Frame
  deriving DecidableEq, Repr

/-- The joypad (R46): the column-select latch and the two active-low key groups. -/
structure Joypad where
  sel : BitVec 2
  /-- bit 0 Right, 1 Left, 2 Up, 3 Down. -/
  keysDir : BitVec 4
  /-- bit 0 A, 1 B, 2 Select, 3 Start. -/
  keysAct : BitVec 4
  deriving DecidableEq, Repr

/-- The eight keys (R427). -/
inductive Key where
  | right
  | left
  | up
  | down
  | a
  | b
  | select
  | start
  deriving DecidableEq, Repr

/-- One key transition the host drain receives (R427). -/
structure KeyEvent where
  key : Key
  pressed : Bool
  deriving DecidableEq, Repr

/-- The cartridge parameters, fixed for a whole run (R9). -/
structure Cartridge where
  /-- The ROM image by offset. -/
  rom : Memory
  /-- CART_TYPE, header byte 0x147. -/
  cartType : Byte
  /-- ROM_BANKS. -/
  romBanks : Nat
  /-- RAM_BANKS. -/
  ramBanks : Nat
  deriving DecidableEq, Repr

/-- What crosses the boundary to the host (R420, R427, R428). -/
structure HostPort where
  /-- The lists of key transitions still to be drained, one for each macro-step to come (R427). -/
  keyStream : List (List KeyEvent)
  /-- The frame handed over last, none before the first (R420). -/
  presented : Option Frame
  deriving DecidableEq, Repr

/-- The whole machine. -/
structure State where
  cpu : Cpu
  mmu : Mmu
  timer : Timer
  ppu : Ppu
  joypad : Joypad
  cart : Cartridge
  host : HostPort
  /-- The STOPPED latch with the recorded fatal condition (R44). -/
  stopped : Option Fault
  deriving DecidableEq, Repr

/-- What a step or a meaning answers. -/
abbrev Result := Host.Outcome State Fault Refusal

/-- CART_TYPE 0x01, 0x02, 0x03: the banked scheme (R104). -/
def Cartridge.banked (c : Cartridge) : Bool :=
  decide (c.cartType = 0x01) || decide (c.cartType = 0x02) || decide (c.cartType = 0x03)

/-- CART_TYPE 0x00 (no controller) or the banked scheme (R104, R342). -/
def Cartridge.supported (c : Cartridge) : Bool := decide (c.cartType = 0x00) || c.banked

/-- The CPU after reset (R37, R38, R40 to R42; `mcycles`: notes/assumptions/4.md). -/
def Cpu.reset : Cpu :=
  { a := 0x01, f := { z := true, n := false, h := true, c := true },
    b := 0x00, c := 0x13, d := 0x00, e := 0xD8, h := 0x01, l := 0x4D,
    sp := 0xFFFE, pc := 0x0100, ime := false, halted := false, mcycles := 0 }

/-- The memory-management unit after reset (R51, R52, R61, R62). -/
def Mmu.reset : Mmu :=
  { ie := 0, irq := 0, romBank := 1, ramBank := 0, ramEnable := false, bankMode := false,
    eram := [], wram := [], hram := [], sb := 0x00, sc := 0x00, audio := [] }

/-- The timer after reset (R47 to R50, R64). -/
def Timer.reset : Timer :=
  { div16 := 0, tima := 0x00, tma := 0x00, tac := 0, overflowPending := false }

/-- The picture processing unit after reset (R53 to R60, R63, R67). -/
def Ppu.reset : Ppu :=
  { lcdc := 0x91, statEn := 0, scy := 0x00, scx := 0x00, lyc := 0x00, dma := 0x00,
    bgp := 0xFC, obp0 := 0xFF, obp1 := 0xFF, wy := 0x00, wx := 0x00,
    phase := .oamScan, dot := 0, line := 0, vram := [], oam := [], frame := [] }

/-- The joypad after reset (R46). -/
def Joypad.reset : Joypad := { sel := 0b11, keysDir := 0xF, keysAct := 0xF }

/-- Reset is the creation of the machine with its cartridge parameters (R440); an unsupported CART_TYPE
creates it stopped (R342, R442). -/
def State.configure (cart : Cartridge) : State :=
  { cpu := Cpu.reset, mmu := Mmu.reset, timer := Timer.reset, ppu := Ppu.reset,
    joypad := Joypad.reset, cart := cart, host := { keyStream := [], presented := none },
    stopped := if cart.supported then none else some (.unsupportedBankController cart.cartType) }

/-- The cartridge `State.reset` holds: no controller, two ROM banks, no RAM, no ROM byte listed. The spec
gives the cartridge parameters no default (R9): notes/assumptions/1.md. -/
def Cartridge.blank : Cartridge := { rom := [], cartType := 0x00, romBanks := 2, ramBanks := 0 }

/-- The machine right after reset (R440), with the cartridge of notes/assumptions/1.md. -/
def State.reset : State := State.configure Cartridge.blank

end Sys2Proof.Machine
end

