-- ==== Sys2Proof/Syntax.lean ====
section
/-! DEFINITION. The instruction set: one constructor for each row of spec/opcode_table.json (spec
30_encoding.md R152, R154), and the operand names of spec 30_encoding.md R144. A constructor is named after
the row: the mnemonic in small letters, then the operands; `atHL` is the operand `(HL)`, `atHLi` and `atHLd` are
`(HL+)` and `(HL-)`. An immediate byte `n` (in JR and the SP forms the raw displacement byte `e`) and an immediate
word `nn` are the constructor's arguments (R146 to R148). The rows with an argument come first. -/

namespace Sys2Proof

/-- The 8-bit registers a 3-bit field selects (R31, R144); index 6 is the memory byte at HL (R145). -/
inductive Reg where
  | b
  | c
  | d
  | e
  | h
  | l
  | a
  deriving DecidableEq, Repr

/-- The pairs a 2-bit field selects (R31, R144). -/
inductive Pair where
  | bc
  | de
  | hl
  | sp
  deriving DecidableEq, Repr

/-- The pairs a 2-bit field selects in PUSH and POP (R31, R144). -/
inductive StackPair where
  | bc
  | de
  | hl
  | af
  deriving DecidableEq, Repr

/-- The conditions (R144, R300). -/
inductive Cond where
  | nz
  | z
  | nc
  | c
  deriving DecidableEq, Repr

/-- The ALU operations (R144, R220). -/
inductive AluOp where
  | add
  | adc
  | sub
  | sbc
  | and
  | xor
  | or
  | cp
  deriving DecidableEq, Repr

/-- The rotate and shift operations (R144, R270). -/
inductive RotOp where
  | rlc
  | rrc
  | rl
  | rr
  | sla
  | sra
  | swap
  | srl
  deriving DecidableEq, Repr

/-- The instructions. -/
inductive Instr where
  /-- 0x01 `LD BC,nn` (R201). -/
  | ld_BC_nn (nn : Word)
  /-- 0x06 `LD B,n` (R172). -/
  | ld_B_n (n : Byte)
  /-- 0x08 `LD (nn),SP` (R202). -/
  | ld_atnn_SP (nn : Word)
  /-- 0x0E `LD C,n` (R172). -/
  | ld_C_n (n : Byte)
  /-- 0x11 `LD DE,nn` (R201). -/
  | ld_DE_nn (nn : Word)
  /-- 0x16 `LD D,n` (R172). -/
  | ld_D_n (n : Byte)
  /-- 0x18 `JR e` (R304). -/
  | jr_e (n : Byte)
  /-- 0x1E `LD E,n` (R172). -/
  | ld_E_n (n : Byte)
  /-- 0x20 `JR NZ,e` (R305). -/
  | jr_NZ_e (n : Byte)
  /-- 0x21 `LD HL,nn` (R201). -/
  | ld_HL_nn (nn : Word)
  /-- 0x26 `LD H,n` (R172). -/
  | ld_H_n (n : Byte)
  /-- 0x28 `JR Z,e` (R305). -/
  | jr_Z_e (n : Byte)
  /-- 0x2E `LD L,n` (R172). -/
  | ld_L_n (n : Byte)
  /-- 0x30 `JR NC,e` (R305). -/
  | jr_NC_e (n : Byte)
  /-- 0x31 `LD SP,nn` (R201). -/
  | ld_SP_nn (nn : Word)
  /-- 0x36 `LD (HL),n` (R175). -/
  | ld_atHL_n (n : Byte)
  /-- 0x38 `JR C,e` (R305). -/
  | jr_C_e (n : Byte)
  /-- 0x3E `LD A,n` (R172). -/
  | ld_A_n (n : Byte)
  /-- 0xC2 `JP NZ,nn` (R302). -/
  | jp_NZ_nn (nn : Word)
  /-- 0xC3 `JP nn` (R301). -/
  | jp_nn (nn : Word)
  /-- 0xC4 `CALL NZ,nn` (R307). -/
  | call_NZ_nn (nn : Word)
  /-- 0xC6 `ADD A,n` (R223). -/
  | add_A_n (n : Byte)
  /-- 0xCA `JP Z,nn` (R302). -/
  | jp_Z_nn (nn : Word)
  /-- 0xCC `CALL Z,nn` (R307). -/
  | call_Z_nn (nn : Word)
  /-- 0xCD `CALL nn` (R306). -/
  | call_nn (nn : Word)
  /-- 0xCE `ADC A,n` (R226). -/
  | adc_A_n (n : Byte)
  /-- 0xD2 `JP NC,nn` (R302). -/
  | jp_NC_nn (nn : Word)
  /-- 0xD4 `CALL NC,nn` (R307). -/
  | call_NC_nn (nn : Word)
  /-- 0xD6 `SUB n` (R229). -/
  | sub_n (n : Byte)
  /-- 0xDA `JP C,nn` (R302). -/
  | jp_C_nn (nn : Word)
  /-- 0xDC `CALL C,nn` (R307). -/
  | call_C_nn (nn : Word)
  /-- 0xDE `SBC A,n` (R232). -/
  | sbc_A_n (n : Byte)
  /-- 0xE0 `LDH (n),A` (R185). -/
  | ldh_atn_A (n : Byte)
  /-- 0xE6 `AND n` (R235). -/
  | and_n (n : Byte)
  /-- 0xE8 `ADD SP,e` (R264). -/
  | add_SP_e (n : Byte)
  /-- 0xEA `LD (nn),A` (R181). -/
  | ld_atnn_A (nn : Word)
  /-- 0xEE `XOR n` (R238). -/
  | xor_n (n : Byte)
  /-- 0xF0 `LDH A,(n)` (R184). -/
  | ldh_A_atn (n : Byte)
  /-- 0xF6 `OR n` (R241). -/
  | or_n (n : Byte)
  /-- 0xF8 `LD HL,SP+e` (R204). -/
  | ld_HL_SPe (n : Byte)
  /-- 0xFA `LD A,(nn)` (R180). -/
  | ld_A_atnn (nn : Word)
  /-- 0xFE `CP n` (R244). -/
  | cp_n (n : Byte)
  /-- 0x00 `NOP` (R321). -/
  | nop
  /-- 0x02 `LD (BC),A` (R178). -/
  | ld_atBC_A
  /-- 0x03 `INC BC` (R262). -/
  | inc_BC
  /-- 0x04 `INC B` (R245). -/
  | inc_B
  /-- 0x05 `DEC B` (R247). -/
  | dec_B
  /-- 0x07 `RLCA` (R271). -/
  | rlca
  /-- 0x09 `ADD HL,BC` (R261). -/
  | add_HL_BC
  /-- 0x0A `LD A,(BC)` (R176). -/
  | ld_A_atBC
  /-- 0x0B `DEC BC` (R263). -/
  | dec_BC
  /-- 0x0C `INC C` (R245). -/
  | inc_C
  /-- 0x0D `DEC C` (R247). -/
  | dec_C
  /-- 0x0F `RRCA` (R272). -/
  | rrca
  /-- 0x10 `STOP` (R323). -/
  | stop
  /-- 0x12 `LD (DE),A` (R179). -/
  | ld_atDE_A
  /-- 0x13 `INC DE` (R262). -/
  | inc_DE
  /-- 0x14 `INC D` (R245). -/
  | inc_D
  /-- 0x15 `DEC D` (R247). -/
  | dec_D
  /-- 0x17 `RLA` (R273). -/
  | rla
  /-- 0x19 `ADD HL,DE` (R261). -/
  | add_HL_DE
  /-- 0x1A `LD A,(DE)` (R177). -/
  | ld_A_atDE
  /-- 0x1B `DEC DE` (R263). -/
  | dec_DE
  /-- 0x1C `INC E` (R245). -/
  | inc_E
  /-- 0x1D `DEC E` (R247). -/
  | dec_E
  /-- 0x1F `RRA` (R274). -/
  | rra
  /-- 0x22 `LD (HL+),A` (R186). -/
  | ld_atHLi_A
  /-- 0x23 `INC HL` (R262). -/
  | inc_HL
  /-- 0x24 `INC H` (R245). -/
  | inc_H
  /-- 0x25 `DEC H` (R247). -/
  | dec_H
  /-- 0x27 `DAA` (R249). -/
  | daa
  /-- 0x29 `ADD HL,HL` (R261). -/
  | add_HL_HL
  /-- 0x2A `LD A,(HL+)` (R187). -/
  | ld_A_atHLi
  /-- 0x2B `DEC HL` (R263). -/
  | dec_HL
  /-- 0x2C `INC L` (R245). -/
  | inc_L
  /-- 0x2D `DEC L` (R247). -/
  | dec_L
  /-- 0x2F `CPL` (R250). -/
  | cpl
  /-- 0x32 `LD (HL-),A` (R188). -/
  | ld_atHLd_A
  /-- 0x33 `INC SP` (R262). -/
  | inc_SP
  /-- 0x34 `INC (HL)` (R246). -/
  | inc_atHL
  /-- 0x35 `DEC (HL)` (R248). -/
  | dec_atHL
  /-- 0x37 `SCF` (R251). -/
  | scf
  /-- 0x39 `ADD HL,SP` (R261). -/
  | add_HL_SP
  /-- 0x3A `LD A,(HL-)` (R189). -/
  | ld_A_atHLd
  /-- 0x3B `DEC SP` (R263). -/
  | dec_SP
  /-- 0x3C `INC A` (R245). -/
  | inc_A
  /-- 0x3D `DEC A` (R247). -/
  | dec_A
  /-- 0x3F `CCF` (R252). -/
  | ccf
  /-- 0x40 `LD B,B` (R171). -/
  | ld_B_B
  /-- 0x41 `LD B,C` (R171). -/
  | ld_B_C
  /-- 0x42 `LD B,D` (R171). -/
  | ld_B_D
  /-- 0x43 `LD B,E` (R171). -/
  | ld_B_E
  /-- 0x44 `LD B,H` (R171). -/
  | ld_B_H
  /-- 0x45 `LD B,L` (R171). -/
  | ld_B_L
  /-- 0x46 `LD B,(HL)` (R173). -/
  | ld_B_atHL
  /-- 0x47 `LD B,A` (R171). -/
  | ld_B_A
  /-- 0x48 `LD C,B` (R171). -/
  | ld_C_B
  /-- 0x49 `LD C,C` (R171). -/
  | ld_C_C
  /-- 0x4A `LD C,D` (R171). -/
  | ld_C_D
  /-- 0x4B `LD C,E` (R171). -/
  | ld_C_E
  /-- 0x4C `LD C,H` (R171). -/
  | ld_C_H
  /-- 0x4D `LD C,L` (R171). -/
  | ld_C_L
  /-- 0x4E `LD C,(HL)` (R173). -/
  | ld_C_atHL
  /-- 0x4F `LD C,A` (R171). -/
  | ld_C_A
  /-- 0x50 `LD D,B` (R171). -/
  | ld_D_B
  /-- 0x51 `LD D,C` (R171). -/
  | ld_D_C
  /-- 0x52 `LD D,D` (R171). -/
  | ld_D_D
  /-- 0x53 `LD D,E` (R171). -/
  | ld_D_E
  /-- 0x54 `LD D,H` (R171). -/
  | ld_D_H
  /-- 0x55 `LD D,L` (R171). -/
  | ld_D_L
  /-- 0x56 `LD D,(HL)` (R173). -/
  | ld_D_atHL
  /-- 0x57 `LD D,A` (R171). -/
  | ld_D_A
  /-- 0x58 `LD E,B` (R171). -/
  | ld_E_B
  /-- 0x59 `LD E,C` (R171). -/
  | ld_E_C
  /-- 0x5A `LD E,D` (R171). -/
  | ld_E_D
  /-- 0x5B `LD E,E` (R171). -/
  | ld_E_E
  /-- 0x5C `LD E,H` (R171). -/
  | ld_E_H
  /-- 0x5D `LD E,L` (R171). -/
  | ld_E_L
  /-- 0x5E `LD E,(HL)` (R173). -/
  | ld_E_atHL
  /-- 0x5F `LD E,A` (R171). -/
  | ld_E_A
  /-- 0x60 `LD H,B` (R171). -/
  | ld_H_B
  /-- 0x61 `LD H,C` (R171). -/
  | ld_H_C
  /-- 0x62 `LD H,D` (R171). -/
  | ld_H_D
  /-- 0x63 `LD H,E` (R171). -/
  | ld_H_E
  /-- 0x64 `LD H,H` (R171). -/
  | ld_H_H
  /-- 0x65 `LD H,L` (R171). -/
  | ld_H_L
  /-- 0x66 `LD H,(HL)` (R173). -/
  | ld_H_atHL
  /-- 0x67 `LD H,A` (R171). -/
  | ld_H_A
  /-- 0x68 `LD L,B` (R171). -/
  | ld_L_B
  /-- 0x69 `LD L,C` (R171). -/
  | ld_L_C
  /-- 0x6A `LD L,D` (R171). -/
  | ld_L_D
  /-- 0x6B `LD L,E` (R171). -/
  | ld_L_E
  /-- 0x6C `LD L,H` (R171). -/
  | ld_L_H
  /-- 0x6D `LD L,L` (R171). -/
  | ld_L_L
  /-- 0x6E `LD L,(HL)` (R173). -/
  | ld_L_atHL
  /-- 0x6F `LD L,A` (R171). -/
  | ld_L_A
  /-- 0x70 `LD (HL),B` (R174). -/
  | ld_atHL_B
  /-- 0x71 `LD (HL),C` (R174). -/
  | ld_atHL_C
  /-- 0x72 `LD (HL),D` (R174). -/
  | ld_atHL_D
  /-- 0x73 `LD (HL),E` (R174). -/
  | ld_atHL_E
  /-- 0x74 `LD (HL),H` (R174). -/
  | ld_atHL_H
  /-- 0x75 `LD (HL),L` (R174). -/
  | ld_atHL_L
  /-- 0x76 `HALT` (R322). -/
  | halt
  /-- 0x77 `LD (HL),A` (R174). -/
  | ld_atHL_A
  /-- 0x78 `LD A,B` (R171). -/
  | ld_A_B
  /-- 0x79 `LD A,C` (R171). -/
  | ld_A_C
  /-- 0x7A `LD A,D` (R171). -/
  | ld_A_D
  /-- 0x7B `LD A,E` (R171). -/
  | ld_A_E
  /-- 0x7C `LD A,H` (R171). -/
  | ld_A_H
  /-- 0x7D `LD A,L` (R171). -/
  | ld_A_L
  /-- 0x7E `LD A,(HL)` (R173). -/
  | ld_A_atHL
  /-- 0x7F `LD A,A` (R171). -/
  | ld_A_A
  /-- 0x80 `ADD A,B` (R221). -/
  | add_A_B
  /-- 0x81 `ADD A,C` (R221). -/
  | add_A_C
  /-- 0x82 `ADD A,D` (R221). -/
  | add_A_D
  /-- 0x83 `ADD A,E` (R221). -/
  | add_A_E
  /-- 0x84 `ADD A,H` (R221). -/
  | add_A_H
  /-- 0x85 `ADD A,L` (R221). -/
  | add_A_L
  /-- 0x86 `ADD A,(HL)` (R222). -/
  | add_A_atHL
  /-- 0x87 `ADD A,A` (R221). -/
  | add_A_A
  /-- 0x88 `ADC A,B` (R224). -/
  | adc_A_B
  /-- 0x89 `ADC A,C` (R224). -/
  | adc_A_C
  /-- 0x8A `ADC A,D` (R224). -/
  | adc_A_D
  /-- 0x8B `ADC A,E` (R224). -/
  | adc_A_E
  /-- 0x8C `ADC A,H` (R224). -/
  | adc_A_H
  /-- 0x8D `ADC A,L` (R224). -/
  | adc_A_L
  /-- 0x8E `ADC A,(HL)` (R225). -/
  | adc_A_atHL
  /-- 0x8F `ADC A,A` (R224). -/
  | adc_A_A
  /-- 0x90 `SUB B` (R227). -/
  | sub_B
  /-- 0x91 `SUB C` (R227). -/
  | sub_C
  /-- 0x92 `SUB D` (R227). -/
  | sub_D
  /-- 0x93 `SUB E` (R227). -/
  | sub_E
  /-- 0x94 `SUB H` (R227). -/
  | sub_H
  /-- 0x95 `SUB L` (R227). -/
  | sub_L
  /-- 0x96 `SUB (HL)` (R228). -/
  | sub_atHL
  /-- 0x97 `SUB A` (R227). -/
  | sub_A
  /-- 0x98 `SBC A,B` (R230). -/
  | sbc_A_B
  /-- 0x99 `SBC A,C` (R230). -/
  | sbc_A_C
  /-- 0x9A `SBC A,D` (R230). -/
  | sbc_A_D
  /-- 0x9B `SBC A,E` (R230). -/
  | sbc_A_E
  /-- 0x9C `SBC A,H` (R230). -/
  | sbc_A_H
  /-- 0x9D `SBC A,L` (R230). -/
  | sbc_A_L
  /-- 0x9E `SBC A,(HL)` (R231). -/
  | sbc_A_atHL
  /-- 0x9F `SBC A,A` (R230). -/
  | sbc_A_A
  /-- 0xA0 `AND B` (R233). -/
  | and_B
  /-- 0xA1 `AND C` (R233). -/
  | and_C
  /-- 0xA2 `AND D` (R233). -/
  | and_D
  /-- 0xA3 `AND E` (R233). -/
  | and_E
  /-- 0xA4 `AND H` (R233). -/
  | and_H
  /-- 0xA5 `AND L` (R233). -/
  | and_L
  /-- 0xA6 `AND (HL)` (R234). -/
  | and_atHL
  /-- 0xA7 `AND A` (R233). -/
  | and_A
  /-- 0xA8 `XOR B` (R236). -/
  | xor_B
  /-- 0xA9 `XOR C` (R236). -/
  | xor_C
  /-- 0xAA `XOR D` (R236). -/
  | xor_D
  /-- 0xAB `XOR E` (R236). -/
  | xor_E
  /-- 0xAC `XOR H` (R236). -/
  | xor_H
  /-- 0xAD `XOR L` (R236). -/
  | xor_L
  /-- 0xAE `XOR (HL)` (R237). -/
  | xor_atHL
  /-- 0xAF `XOR A` (R236). -/
  | xor_A
  /-- 0xB0 `OR B` (R239). -/
  | or_B
  /-- 0xB1 `OR C` (R239). -/
  | or_C
  /-- 0xB2 `OR D` (R239). -/
  | or_D
  /-- 0xB3 `OR E` (R239). -/
  | or_E
  /-- 0xB4 `OR H` (R239). -/
  | or_H
  /-- 0xB5 `OR L` (R239). -/
  | or_L
  /-- 0xB6 `OR (HL)` (R240). -/
  | or_atHL
  /-- 0xB7 `OR A` (R239). -/
  | or_A
  /-- 0xB8 `CP B` (R242). -/
  | cp_B
  /-- 0xB9 `CP C` (R242). -/
  | cp_C
  /-- 0xBA `CP D` (R242). -/
  | cp_D
  /-- 0xBB `CP E` (R242). -/
  | cp_E
  /-- 0xBC `CP H` (R242). -/
  | cp_H
  /-- 0xBD `CP L` (R242). -/
  | cp_L
  /-- 0xBE `CP (HL)` (R243). -/
  | cp_atHL
  /-- 0xBF `CP A` (R242). -/
  | cp_A
  /-- 0xC0 `RET NZ` (R309). -/
  | ret_NZ
  /-- 0xC1 `POP BC` (R206). -/
  | pop_BC
  /-- 0xC5 `PUSH BC` (R205). -/
  | push_BC
  /-- 0xC7 `RST 0x00` (R313). -/
  | rst_00
  /-- 0xC8 `RET Z` (R309). -/
  | ret_Z
  /-- 0xC9 `RET` (R308). -/
  | ret
  /-- 0xCB `PREFIX CB` (R326). -/
  | prefix_CB
  /-- 0xCF `RST 0x08` (R313). -/
  | rst_08
  /-- 0xD0 `RET NC` (R309). -/
  | ret_NC
  /-- 0xD1 `POP DE` (R206). -/
  | pop_DE
  /-- 0xD3 `reserved` (R327). -/
  | reserved_D3
  /-- 0xD5 `PUSH DE` (R205). -/
  | push_DE
  /-- 0xD7 `RST 0x10` (R313). -/
  | rst_10
  /-- 0xD8 `RET C` (R309). -/
  | ret_C
  /-- 0xD9 `RETI` (R312). -/
  | reti
  /-- 0xDB `reserved` (R327). -/
  | reserved_DB
  /-- 0xDD `reserved` (R327). -/
  | reserved_DD
  /-- 0xDF `RST 0x18` (R313). -/
  | rst_18
  /-- 0xE1 `POP HL` (R206). -/
  | pop_HL
  /-- 0xE2 `LDH (C),A` (R183). -/
  | ldh_atC_A
  /-- 0xE3 `reserved` (R327). -/
  | reserved_E3
  /-- 0xE4 `reserved` (R327). -/
  | reserved_E4
  /-- 0xE5 `PUSH HL` (R205). -/
  | push_HL
  /-- 0xE7 `RST 0x20` (R313). -/
  | rst_20
  /-- 0xE9 `JP HL` (R303). -/
  | jp_HL
  /-- 0xEB `reserved` (R327). -/
  | reserved_EB
  /-- 0xEC `reserved` (R327). -/
  | reserved_EC
  /-- 0xED `reserved` (R327). -/
  | reserved_ED
  /-- 0xEF `RST 0x28` (R313). -/
  | rst_28
  /-- 0xF1 `POP AF` (R206). -/
  | pop_AF
  /-- 0xF2 `LDH A,(C)` (R182). -/
  | ldh_A_atC
  /-- 0xF3 `DI` (R324). -/
  | di
  /-- 0xF4 `reserved` (R327). -/
  | reserved_F4
  /-- 0xF5 `PUSH AF` (R205). -/
  | push_AF
  /-- 0xF7 `RST 0x30` (R313). -/
  | rst_30
  /-- 0xF9 `LD SP,HL` (R203). -/
  | ld_SP_HL
  /-- 0xFB `EI` (R325). -/
  | ei
  /-- 0xFC `reserved` (R327). -/
  | reserved_FC
  /-- 0xFD `reserved` (R327). -/
  | reserved_FD
  /-- 0xFF `RST 0x38` (R313). -/
  | rst_38
  /-- 0xCB 0x00 `RLC B` (R275). -/
  | rlc_B
  /-- 0xCB 0x01 `RLC C` (R275). -/
  | rlc_C
  /-- 0xCB 0x02 `RLC D` (R275). -/
  | rlc_D
  /-- 0xCB 0x03 `RLC E` (R275). -/
  | rlc_E
  /-- 0xCB 0x04 `RLC H` (R275). -/
  | rlc_H
  /-- 0xCB 0x05 `RLC L` (R275). -/
  | rlc_L
  /-- 0xCB 0x06 `RLC (HL)` (R276). -/
  | rlc_atHL
  /-- 0xCB 0x07 `RLC A` (R275). -/
  | rlc_A
  /-- 0xCB 0x08 `RRC B` (R277). -/
  | rrc_B
  /-- 0xCB 0x09 `RRC C` (R277). -/
  | rrc_C
  /-- 0xCB 0x0A `RRC D` (R277). -/
  | rrc_D
  /-- 0xCB 0x0B `RRC E` (R277). -/
  | rrc_E
  /-- 0xCB 0x0C `RRC H` (R277). -/
  | rrc_H
  /-- 0xCB 0x0D `RRC L` (R277). -/
  | rrc_L
  /-- 0xCB 0x0E `RRC (HL)` (R278). -/
  | rrc_atHL
  /-- 0xCB 0x0F `RRC A` (R277). -/
  | rrc_A
  /-- 0xCB 0x10 `RL B` (R279). -/
  | rl_B
  /-- 0xCB 0x11 `RL C` (R279). -/
  | rl_C
  /-- 0xCB 0x12 `RL D` (R279). -/
  | rl_D
  /-- 0xCB 0x13 `RL E` (R279). -/
  | rl_E
  /-- 0xCB 0x14 `RL H` (R279). -/
  | rl_H
  /-- 0xCB 0x15 `RL L` (R279). -/
  | rl_L
  /-- 0xCB 0x16 `RL (HL)` (R280). -/
  | rl_atHL
  /-- 0xCB 0x17 `RL A` (R279). -/
  | rl_A
  /-- 0xCB 0x18 `RR B` (R281). -/
  | rr_B
  /-- 0xCB 0x19 `RR C` (R281). -/
  | rr_C
  /-- 0xCB 0x1A `RR D` (R281). -/
  | rr_D
  /-- 0xCB 0x1B `RR E` (R281). -/
  | rr_E
  /-- 0xCB 0x1C `RR H` (R281). -/
  | rr_H
  /-- 0xCB 0x1D `RR L` (R281). -/
  | rr_L
  /-- 0xCB 0x1E `RR (HL)` (R282). -/
  | rr_atHL
  /-- 0xCB 0x1F `RR A` (R281). -/
  | rr_A
  /-- 0xCB 0x20 `SLA B` (R283). -/
  | sla_B
  /-- 0xCB 0x21 `SLA C` (R283). -/
  | sla_C
  /-- 0xCB 0x22 `SLA D` (R283). -/
  | sla_D
  /-- 0xCB 0x23 `SLA E` (R283). -/
  | sla_E
  /-- 0xCB 0x24 `SLA H` (R283). -/
  | sla_H
  /-- 0xCB 0x25 `SLA L` (R283). -/
  | sla_L
  /-- 0xCB 0x26 `SLA (HL)` (R284). -/
  | sla_atHL
  /-- 0xCB 0x27 `SLA A` (R283). -/
  | sla_A
  /-- 0xCB 0x28 `SRA B` (R285). -/
  | sra_B
  /-- 0xCB 0x29 `SRA C` (R285). -/
  | sra_C
  /-- 0xCB 0x2A `SRA D` (R285). -/
  | sra_D
  /-- 0xCB 0x2B `SRA E` (R285). -/
  | sra_E
  /-- 0xCB 0x2C `SRA H` (R285). -/
  | sra_H
  /-- 0xCB 0x2D `SRA L` (R285). -/
  | sra_L
  /-- 0xCB 0x2E `SRA (HL)` (R286). -/
  | sra_atHL
  /-- 0xCB 0x2F `SRA A` (R285). -/
  | sra_A
  /-- 0xCB 0x30 `SWAP B` (R287). -/
  | swap_B
  /-- 0xCB 0x31 `SWAP C` (R287). -/
  | swap_C
  /-- 0xCB 0x32 `SWAP D` (R287). -/
  | swap_D
  /-- 0xCB 0x33 `SWAP E` (R287). -/
  | swap_E
  /-- 0xCB 0x34 `SWAP H` (R287). -/
  | swap_H
  /-- 0xCB 0x35 `SWAP L` (R287). -/
  | swap_L
  /-- 0xCB 0x36 `SWAP (HL)` (R288). -/
  | swap_atHL
  /-- 0xCB 0x37 `SWAP A` (R287). -/
  | swap_A
  /-- 0xCB 0x38 `SRL B` (R289). -/
  | srl_B
  /-- 0xCB 0x39 `SRL C` (R289). -/
  | srl_C
  /-- 0xCB 0x3A `SRL D` (R289). -/
  | srl_D
  /-- 0xCB 0x3B `SRL E` (R289). -/
  | srl_E
  /-- 0xCB 0x3C `SRL H` (R289). -/
  | srl_H
  /-- 0xCB 0x3D `SRL L` (R289). -/
  | srl_L
  /-- 0xCB 0x3E `SRL (HL)` (R290). -/
  | srl_atHL
  /-- 0xCB 0x3F `SRL A` (R289). -/
  | srl_A
  /-- 0xCB 0x40 `BIT 0,B` (R291). -/
  | bit_0_B
  /-- 0xCB 0x41 `BIT 0,C` (R291). -/
  | bit_0_C
  /-- 0xCB 0x42 `BIT 0,D` (R291). -/
  | bit_0_D
  /-- 0xCB 0x43 `BIT 0,E` (R291). -/
  | bit_0_E
  /-- 0xCB 0x44 `BIT 0,H` (R291). -/
  | bit_0_H
  /-- 0xCB 0x45 `BIT 0,L` (R291). -/
  | bit_0_L
  /-- 0xCB 0x46 `BIT 0,(HL)` (R292). -/
  | bit_0_atHL
  /-- 0xCB 0x47 `BIT 0,A` (R291). -/
  | bit_0_A
  /-- 0xCB 0x48 `BIT 1,B` (R291). -/
  | bit_1_B
  /-- 0xCB 0x49 `BIT 1,C` (R291). -/
  | bit_1_C
  /-- 0xCB 0x4A `BIT 1,D` (R291). -/
  | bit_1_D
  /-- 0xCB 0x4B `BIT 1,E` (R291). -/
  | bit_1_E
  /-- 0xCB 0x4C `BIT 1,H` (R291). -/
  | bit_1_H
  /-- 0xCB 0x4D `BIT 1,L` (R291). -/
  | bit_1_L
  /-- 0xCB 0x4E `BIT 1,(HL)` (R292). -/
  | bit_1_atHL
  /-- 0xCB 0x4F `BIT 1,A` (R291). -/
  | bit_1_A
  /-- 0xCB 0x50 `BIT 2,B` (R291). -/
  | bit_2_B
  /-- 0xCB 0x51 `BIT 2,C` (R291). -/
  | bit_2_C
  /-- 0xCB 0x52 `BIT 2,D` (R291). -/
  | bit_2_D
  /-- 0xCB 0x53 `BIT 2,E` (R291). -/
  | bit_2_E
  /-- 0xCB 0x54 `BIT 2,H` (R291). -/
  | bit_2_H
  /-- 0xCB 0x55 `BIT 2,L` (R291). -/
  | bit_2_L
  /-- 0xCB 0x56 `BIT 2,(HL)` (R292). -/
  | bit_2_atHL
  /-- 0xCB 0x57 `BIT 2,A` (R291). -/
  | bit_2_A
  /-- 0xCB 0x58 `BIT 3,B` (R291). -/
  | bit_3_B
  /-- 0xCB 0x59 `BIT 3,C` (R291). -/
  | bit_3_C
  /-- 0xCB 0x5A `BIT 3,D` (R291). -/
  | bit_3_D
  /-- 0xCB 0x5B `BIT 3,E` (R291). -/
  | bit_3_E
  /-- 0xCB 0x5C `BIT 3,H` (R291). -/
  | bit_3_H
  /-- 0xCB 0x5D `BIT 3,L` (R291). -/
  | bit_3_L
  /-- 0xCB 0x5E `BIT 3,(HL)` (R292). -/
  | bit_3_atHL
  /-- 0xCB 0x5F `BIT 3,A` (R291). -/
  | bit_3_A
  /-- 0xCB 0x60 `BIT 4,B` (R291). -/
  | bit_4_B
  /-- 0xCB 0x61 `BIT 4,C` (R291). -/
  | bit_4_C
  /-- 0xCB 0x62 `BIT 4,D` (R291). -/
  | bit_4_D
  /-- 0xCB 0x63 `BIT 4,E` (R291). -/
  | bit_4_E
  /-- 0xCB 0x64 `BIT 4,H` (R291). -/
  | bit_4_H
  /-- 0xCB 0x65 `BIT 4,L` (R291). -/
  | bit_4_L
  /-- 0xCB 0x66 `BIT 4,(HL)` (R292). -/
  | bit_4_atHL
  /-- 0xCB 0x67 `BIT 4,A` (R291). -/
  | bit_4_A
  /-- 0xCB 0x68 `BIT 5,B` (R291). -/
  | bit_5_B
  /-- 0xCB 0x69 `BIT 5,C` (R291). -/
  | bit_5_C
  /-- 0xCB 0x6A `BIT 5,D` (R291). -/
  | bit_5_D
  /-- 0xCB 0x6B `BIT 5,E` (R291). -/
  | bit_5_E
  /-- 0xCB 0x6C `BIT 5,H` (R291). -/
  | bit_5_H
  /-- 0xCB 0x6D `BIT 5,L` (R291). -/
  | bit_5_L
  /-- 0xCB 0x6E `BIT 5,(HL)` (R292). -/
  | bit_5_atHL
  /-- 0xCB 0x6F `BIT 5,A` (R291). -/
  | bit_5_A
  /-- 0xCB 0x70 `BIT 6,B` (R291). -/
  | bit_6_B
  /-- 0xCB 0x71 `BIT 6,C` (R291). -/
  | bit_6_C
  /-- 0xCB 0x72 `BIT 6,D` (R291). -/
  | bit_6_D
  /-- 0xCB 0x73 `BIT 6,E` (R291). -/
  | bit_6_E
  /-- 0xCB 0x74 `BIT 6,H` (R291). -/
  | bit_6_H
  /-- 0xCB 0x75 `BIT 6,L` (R291). -/
  | bit_6_L
  /-- 0xCB 0x76 `BIT 6,(HL)` (R292). -/
  | bit_6_atHL
  /-- 0xCB 0x77 `BIT 6,A` (R291). -/
  | bit_6_A
  /-- 0xCB 0x78 `BIT 7,B` (R291). -/
  | bit_7_B
  /-- 0xCB 0x79 `BIT 7,C` (R291). -/
  | bit_7_C
  /-- 0xCB 0x7A `BIT 7,D` (R291). -/
  | bit_7_D
  /-- 0xCB 0x7B `BIT 7,E` (R291). -/
  | bit_7_E
  /-- 0xCB 0x7C `BIT 7,H` (R291). -/
  | bit_7_H
  /-- 0xCB 0x7D `BIT 7,L` (R291). -/
  | bit_7_L
  /-- 0xCB 0x7E `BIT 7,(HL)` (R292). -/
  | bit_7_atHL
  /-- 0xCB 0x7F `BIT 7,A` (R291). -/
  | bit_7_A
  /-- 0xCB 0x80 `RES 0,B` (R293). -/
  | res_0_B
  /-- 0xCB 0x81 `RES 0,C` (R293). -/
  | res_0_C
  /-- 0xCB 0x82 `RES 0,D` (R293). -/
  | res_0_D
  /-- 0xCB 0x83 `RES 0,E` (R293). -/
  | res_0_E
  /-- 0xCB 0x84 `RES 0,H` (R293). -/
  | res_0_H
  /-- 0xCB 0x85 `RES 0,L` (R293). -/
  | res_0_L
  /-- 0xCB 0x86 `RES 0,(HL)` (R294). -/
  | res_0_atHL
  /-- 0xCB 0x87 `RES 0,A` (R293). -/
  | res_0_A
  /-- 0xCB 0x88 `RES 1,B` (R293). -/
  | res_1_B
  /-- 0xCB 0x89 `RES 1,C` (R293). -/
  | res_1_C
  /-- 0xCB 0x8A `RES 1,D` (R293). -/
  | res_1_D
  /-- 0xCB 0x8B `RES 1,E` (R293). -/
  | res_1_E
  /-- 0xCB 0x8C `RES 1,H` (R293). -/
  | res_1_H
  /-- 0xCB 0x8D `RES 1,L` (R293). -/
  | res_1_L
  /-- 0xCB 0x8E `RES 1,(HL)` (R294). -/
  | res_1_atHL
  /-- 0xCB 0x8F `RES 1,A` (R293). -/
  | res_1_A
  /-- 0xCB 0x90 `RES 2,B` (R293). -/
  | res_2_B
  /-- 0xCB 0x91 `RES 2,C` (R293). -/
  | res_2_C
  /-- 0xCB 0x92 `RES 2,D` (R293). -/
  | res_2_D
  /-- 0xCB 0x93 `RES 2,E` (R293). -/
  | res_2_E
  /-- 0xCB 0x94 `RES 2,H` (R293). -/
  | res_2_H
  /-- 0xCB 0x95 `RES 2,L` (R293). -/
  | res_2_L
  /-- 0xCB 0x96 `RES 2,(HL)` (R294). -/
  | res_2_atHL
  /-- 0xCB 0x97 `RES 2,A` (R293). -/
  | res_2_A
  /-- 0xCB 0x98 `RES 3,B` (R293). -/
  | res_3_B
  /-- 0xCB 0x99 `RES 3,C` (R293). -/
  | res_3_C
  /-- 0xCB 0x9A `RES 3,D` (R293). -/
  | res_3_D
  /-- 0xCB 0x9B `RES 3,E` (R293). -/
  | res_3_E
  /-- 0xCB 0x9C `RES 3,H` (R293). -/
  | res_3_H
  /-- 0xCB 0x9D `RES 3,L` (R293). -/
  | res_3_L
  /-- 0xCB 0x9E `RES 3,(HL)` (R294). -/
  | res_3_atHL
  /-- 0xCB 0x9F `RES 3,A` (R293). -/
  | res_3_A
  /-- 0xCB 0xA0 `RES 4,B` (R293). -/
  | res_4_B
  /-- 0xCB 0xA1 `RES 4,C` (R293). -/
  | res_4_C
  /-- 0xCB 0xA2 `RES 4,D` (R293). -/
  | res_4_D
  /-- 0xCB 0xA3 `RES 4,E` (R293). -/
  | res_4_E
  /-- 0xCB 0xA4 `RES 4,H` (R293). -/
  | res_4_H
  /-- 0xCB 0xA5 `RES 4,L` (R293). -/
  | res_4_L
  /-- 0xCB 0xA6 `RES 4,(HL)` (R294). -/
  | res_4_atHL
  /-- 0xCB 0xA7 `RES 4,A` (R293). -/
  | res_4_A
  /-- 0xCB 0xA8 `RES 5,B` (R293). -/
  | res_5_B
  /-- 0xCB 0xA9 `RES 5,C` (R293). -/
  | res_5_C
  /-- 0xCB 0xAA `RES 5,D` (R293). -/
  | res_5_D
  /-- 0xCB 0xAB `RES 5,E` (R293). -/
  | res_5_E
  /-- 0xCB 0xAC `RES 5,H` (R293). -/
  | res_5_H
  /-- 0xCB 0xAD `RES 5,L` (R293). -/
  | res_5_L
  /-- 0xCB 0xAE `RES 5,(HL)` (R294). -/
  | res_5_atHL
  /-- 0xCB 0xAF `RES 5,A` (R293). -/
  | res_5_A
  /-- 0xCB 0xB0 `RES 6,B` (R293). -/
  | res_6_B
  /-- 0xCB 0xB1 `RES 6,C` (R293). -/
  | res_6_C
  /-- 0xCB 0xB2 `RES 6,D` (R293). -/
  | res_6_D
  /-- 0xCB 0xB3 `RES 6,E` (R293). -/
  | res_6_E
  /-- 0xCB 0xB4 `RES 6,H` (R293). -/
  | res_6_H
  /-- 0xCB 0xB5 `RES 6,L` (R293). -/
  | res_6_L
  /-- 0xCB 0xB6 `RES 6,(HL)` (R294). -/
  | res_6_atHL
  /-- 0xCB 0xB7 `RES 6,A` (R293). -/
  | res_6_A
  /-- 0xCB 0xB8 `RES 7,B` (R293). -/
  | res_7_B
  /-- 0xCB 0xB9 `RES 7,C` (R293). -/
  | res_7_C
  /-- 0xCB 0xBA `RES 7,D` (R293). -/
  | res_7_D
  /-- 0xCB 0xBB `RES 7,E` (R293). -/
  | res_7_E
  /-- 0xCB 0xBC `RES 7,H` (R293). -/
  | res_7_H
  /-- 0xCB 0xBD `RES 7,L` (R293). -/
  | res_7_L
  /-- 0xCB 0xBE `RES 7,(HL)` (R294). -/
  | res_7_atHL
  /-- 0xCB 0xBF `RES 7,A` (R293). -/
  | res_7_A
  /-- 0xCB 0xC0 `SET 0,B` (R295). -/
  | set_0_B
  /-- 0xCB 0xC1 `SET 0,C` (R295). -/
  | set_0_C
  /-- 0xCB 0xC2 `SET 0,D` (R295). -/
  | set_0_D
  /-- 0xCB 0xC3 `SET 0,E` (R295). -/
  | set_0_E
  /-- 0xCB 0xC4 `SET 0,H` (R295). -/
  | set_0_H
  /-- 0xCB 0xC5 `SET 0,L` (R295). -/
  | set_0_L
  /-- 0xCB 0xC6 `SET 0,(HL)` (R296). -/
  | set_0_atHL
  /-- 0xCB 0xC7 `SET 0,A` (R295). -/
  | set_0_A
  /-- 0xCB 0xC8 `SET 1,B` (R295). -/
  | set_1_B
  /-- 0xCB 0xC9 `SET 1,C` (R295). -/
  | set_1_C
  /-- 0xCB 0xCA `SET 1,D` (R295). -/
  | set_1_D
  /-- 0xCB 0xCB `SET 1,E` (R295). -/
  | set_1_E
  /-- 0xCB 0xCC `SET 1,H` (R295). -/
  | set_1_H
  /-- 0xCB 0xCD `SET 1,L` (R295). -/
  | set_1_L
  /-- 0xCB 0xCE `SET 1,(HL)` (R296). -/
  | set_1_atHL
  /-- 0xCB 0xCF `SET 1,A` (R295). -/
  | set_1_A
  /-- 0xCB 0xD0 `SET 2,B` (R295). -/
  | set_2_B
  /-- 0xCB 0xD1 `SET 2,C` (R295). -/
  | set_2_C
  /-- 0xCB 0xD2 `SET 2,D` (R295). -/
  | set_2_D
  /-- 0xCB 0xD3 `SET 2,E` (R295). -/
  | set_2_E
  /-- 0xCB 0xD4 `SET 2,H` (R295). -/
  | set_2_H
  /-- 0xCB 0xD5 `SET 2,L` (R295). -/
  | set_2_L
  /-- 0xCB 0xD6 `SET 2,(HL)` (R296). -/
  | set_2_atHL
  /-- 0xCB 0xD7 `SET 2,A` (R295). -/
  | set_2_A
  /-- 0xCB 0xD8 `SET 3,B` (R295). -/
  | set_3_B
  /-- 0xCB 0xD9 `SET 3,C` (R295). -/
  | set_3_C
  /-- 0xCB 0xDA `SET 3,D` (R295). -/
  | set_3_D
  /-- 0xCB 0xDB `SET 3,E` (R295). -/
  | set_3_E
  /-- 0xCB 0xDC `SET 3,H` (R295). -/
  | set_3_H
  /-- 0xCB 0xDD `SET 3,L` (R295). -/
  | set_3_L
  /-- 0xCB 0xDE `SET 3,(HL)` (R296). -/
  | set_3_atHL
  /-- 0xCB 0xDF `SET 3,A` (R295). -/
  | set_3_A
  /-- 0xCB 0xE0 `SET 4,B` (R295). -/
  | set_4_B
  /-- 0xCB 0xE1 `SET 4,C` (R295). -/
  | set_4_C
  /-- 0xCB 0xE2 `SET 4,D` (R295). -/
  | set_4_D
  /-- 0xCB 0xE3 `SET 4,E` (R295). -/
  | set_4_E
  /-- 0xCB 0xE4 `SET 4,H` (R295). -/
  | set_4_H
  /-- 0xCB 0xE5 `SET 4,L` (R295). -/
  | set_4_L
  /-- 0xCB 0xE6 `SET 4,(HL)` (R296). -/
  | set_4_atHL
  /-- 0xCB 0xE7 `SET 4,A` (R295). -/
  | set_4_A
  /-- 0xCB 0xE8 `SET 5,B` (R295). -/
  | set_5_B
  /-- 0xCB 0xE9 `SET 5,C` (R295). -/
  | set_5_C
  /-- 0xCB 0xEA `SET 5,D` (R295). -/
  | set_5_D
  /-- 0xCB 0xEB `SET 5,E` (R295). -/
  | set_5_E
  /-- 0xCB 0xEC `SET 5,H` (R295). -/
  | set_5_H
  /-- 0xCB 0xED `SET 5,L` (R295). -/
  | set_5_L
  /-- 0xCB 0xEE `SET 5,(HL)` (R296). -/
  | set_5_atHL
  /-- 0xCB 0xEF `SET 5,A` (R295). -/
  | set_5_A
  /-- 0xCB 0xF0 `SET 6,B` (R295). -/
  | set_6_B
  /-- 0xCB 0xF1 `SET 6,C` (R295). -/
  | set_6_C
  /-- 0xCB 0xF2 `SET 6,D` (R295). -/
  | set_6_D
  /-- 0xCB 0xF3 `SET 6,E` (R295). -/
  | set_6_E
  /-- 0xCB 0xF4 `SET 6,H` (R295). -/
  | set_6_H
  /-- 0xCB 0xF5 `SET 6,L` (R295). -/
  | set_6_L
  /-- 0xCB 0xF6 `SET 6,(HL)` (R296). -/
  | set_6_atHL
  /-- 0xCB 0xF7 `SET 6,A` (R295). -/
  | set_6_A
  /-- 0xCB 0xF8 `SET 7,B` (R295). -/
  | set_7_B
  /-- 0xCB 0xF9 `SET 7,C` (R295). -/
  | set_7_C
  /-- 0xCB 0xFA `SET 7,D` (R295). -/
  | set_7_D
  /-- 0xCB 0xFB `SET 7,E` (R295). -/
  | set_7_E
  /-- 0xCB 0xFC `SET 7,H` (R295). -/
  | set_7_H
  /-- 0xCB 0xFD `SET 7,L` (R295). -/
  | set_7_L
  /-- 0xCB 0xFE `SET 7,(HL)` (R296). -/
  | set_7_atHL
  /-- 0xCB 0xFF `SET 7,A` (R295). -/
  | set_7_A
  deriving DecidableEq, Repr

end Sys2Proof
end

