-- ==== Sys2Proof/Machine/Operands.lean ====
section
/-! DEFINITION. The operand forms: the registers by name (spec 10_state.md R31, R32), the pairs as two
registers seen as one 16-bit value, F as a byte (R33, R34), the conditions (spec 45_control.md R300), and the
two ways a meaning ends: the next instruction, or a transfer. -/

namespace Sys2Proof.Machine

/-- F as software sees it through PUSH AF: Z, N, H, C in bits 7 to 4, the low nibble zero (R33, R34). -/
def Flags.toByte (f : Flags) : Byte :=
  (if f.z then 0x80 else 0) ||| (if f.n then 0x40 else 0) ||| (if f.h then 0x20 else 0) |||
    (if f.c then 0x10 else 0)

/-- `F <- v & 0xF0` (R33, R206). -/
def Flags.ofByte (v : Byte) : Flags :=
  { z := v.getLsbD 7, n := v.getLsbD 6, h := v.getLsbD 5, c := v.getLsbD 4 }

/-- `x[i]` (R13, R31). -/
def Cpu.reg (s : Cpu) : Reg → Byte
  | .b => s.b
  | .c => s.c
  | .d => s.d
  | .e => s.e
  | .h => s.h
  | .l => s.l
  | .a => s.a

/-- `x[i] <- v` (R13, R31). -/
def Cpu.setReg (s : Cpu) (r : Reg) (v : Byte) : Cpu :=
  match r with
  | .b => { s with b := v }
  | .c => { s with c := v }
  | .d => { s with d := v }
  | .e => { s with e := v }
  | .h => { s with h := v }
  | .l => { s with l := v }
  | .a => { s with a := v }

/-- `BC = {B, C}` (R31). -/
def Cpu.bc (s : Cpu) : Word := joinBytes s.b s.c
/-- `DE = {D, E}` (R31). -/
def Cpu.de (s : Cpu) : Word := joinBytes s.d s.e
/-- `HL = {H, L}` (R31). -/
def Cpu.hl (s : Cpu) : Word := joinBytes s.h s.l
/-- `AF = {A, F}` (R31). -/
def Cpu.af (s : Cpu) : Word := joinBytes s.a s.f.toByte

/-- Writes B and C together (R32). -/
def Cpu.setBc (s : Cpu) (v : Word) : Cpu := { s with b := hiByte v, c := loByte v }
/-- Writes D and E together (R32). -/
def Cpu.setDe (s : Cpu) (v : Word) : Cpu := { s with d := hiByte v, e := loByte v }
/-- Writes H and L together (R32). -/
def Cpu.setHl (s : Cpu) (v : Word) : Cpu := { s with h := hiByte v, l := loByte v }
/-- Writes A, and F with its low nibble dropped (R33, R206). -/
def Cpu.setAf (s : Cpu) (v : Word) : Cpu := { s with a := hiByte v, f := Flags.ofByte (loByte v) }

/-- `xx[p]` with p = 3 naming SP (R31, R144). -/
def Cpu.pair (s : Cpu) : Pair → Word
  | .bc => s.bc
  | .de => s.de
  | .hl => s.hl
  | .sp => s.sp

/-- `xx[p] <- v` with p = 3 naming SP (R31, R144). -/
def Cpu.setPair (s : Cpu) (p : Pair) (v : Word) : Cpu :=
  match p with
  | .bc => s.setBc v
  | .de => s.setDe v
  | .hl => s.setHl v
  | .sp => { s with sp := v }

/-- `xx[p]` in PUSH and POP, p = 3 naming AF (R31, R144). -/
def Cpu.stackPair (s : Cpu) : StackPair → Word
  | .bc => s.bc
  | .de => s.de
  | .hl => s.hl
  | .af => s.af

/-- `xx[p] <- v` in PUSH and POP, p = 3 naming AF (R31, R144, R206). -/
def Cpu.setStackPair (s : Cpu) (p : StackPair) (v : Word) : Cpu :=
  match p with
  | .bc => s.setBc v
  | .de => s.setDe v
  | .hl => s.setHl v
  | .af => s.setAf v

/-- The condition field `cc` (R144, R300). -/
def Flags.cond (f : Flags) : Cond → Bool
  | .nz => !f.z
  | .z => f.z
  | .nc => !f.c
  | .c => f.c

/-- The end of an instruction that does not transfer control: `PC <- PC0 + len`, cost `m` (R15, R39). -/
def Cpu.retire (s : Cpu) (len : Word) (m : Nat) : Cpu := { s with pc := s.pc + len, mcycles := m }

/-- The end of an instruction that transfers control: `PC <- target`, cost `m` (R13, R300). -/
def Cpu.jump (s : Cpu) (target : Word) (m : Nat) : Cpu := { s with pc := target, mcycles := m }

/-- The state with its CPU replaced; the register file is written through here only (R30). -/
def State.withCpu (s : State) (c : Cpu) : State := { s with cpu := c }

end Sys2Proof.Machine
end

