-- ==== Sys2Proof/Machine/Flags.lean ====
section
/-! DEFINITION. Every flag computation: the helper functions of spec 00_scope.md R18, the eight ALU operations
(spec 42_alu8.md R220), INC and DEC, DAA, the 16-bit adds (spec 43_alu16.md) and the rotates and shifts
(spec 44_rotate_shift_bit.md R270). -/

namespace Sys2Proof.Machine

/-- `carry8(a, b, cin)` (R18). -/
def carry8 (a b : Byte) (cin : Bool) : Bool := decide (a.toNat + b.toNat + cin.toNat > 0xFF)

/-- `half8(a, b, cin)` (R18). -/
def half8 (a b : Byte) (cin : Bool) : Bool :=
  decide ((a &&& 0x0F).toNat + (b &&& 0x0F).toNat + cin.toNat > 0xF)

/-- `borrow8(a, b, cin)` (R18). -/
def borrow8 (a b : Byte) (cin : Bool) : Bool := decide (a.toNat < b.toNat + cin.toNat)

/-- `hborrow8(a, b, cin)` (R18). -/
def hborrow8 (a b : Byte) (cin : Bool) : Bool :=
  decide ((a &&& 0x0F).toNat < (b &&& 0x0F).toNat + cin.toNat)

/-- `carry16(a, b)` (R18). -/
def carry16 (a b : Word) : Bool := decide (a.toNat + b.toNat > 0xFFFF)

/-- `half16(a, b)`, the carry out of bit 11 (R18, R260). -/
def half16 (a b : Word) : Bool := decide ((a &&& 0x0FFF).toNat + (b &&& 0x0FFF).toNat > 0xFFF)

/-- A carry flag as an 8-bit number. -/
def carryByte (c : Bool) : Byte := if c then 1 else 0

/-- A row of the ALU table of R220: A after, and the flags. -/
def aluResult (op : AluOp) (a v : Byte) (c : Bool) : Byte × Flags :=
  match op with
  | .add =>
    let r := a + v
    (r, { z := decide (r = 0), n := false, h := half8 a v false, c := carry8 a v false })
  | .adc =>
    let r := a + v + carryByte c
    (r, { z := decide (r = 0), n := false, h := half8 a v c, c := carry8 a v c })
  | .sub =>
    let r := a - v
    (r, { z := decide (r = 0), n := true, h := hborrow8 a v false, c := borrow8 a v false })
  | .sbc =>
    let r := a - v - carryByte c
    (r, { z := decide (r = 0), n := true, h := hborrow8 a v c, c := borrow8 a v c })
  | .and =>
    let r := a &&& v
    (r, { z := decide (r = 0), n := false, h := true, c := false })
  | .xor =>
    let r := a ^^^ v
    (r, { z := decide (r = 0), n := false, h := false, c := false })
  | .or =>
    let r := a ||| v
    (r, { z := decide (r = 0), n := false, h := false, c := false })
  | .cp =>
    let r := a - v
    (a, { z := decide (r = 0), n := true, h := hborrow8 a v false, c := borrow8 a v false })

/-- INC: the flags from the old value `v`; C kept (R245). -/
def incFlags (f : Flags) (v : Byte) : Flags :=
  { f with z := decide (v + 1 = 0), n := false, h := decide (v &&& 0x0F = 0x0F) }

/-- DEC: the flags from the old value `v`; C kept (R247). -/
def decFlags (f : Flags) (v : Byte) : Flags :=
  { f with z := decide (v - 1 = 0), n := true, h := decide (v &&& 0x0F = 0x00) }

/-- DAA after an addition (N = 0): both tests look at A before any adjustment (R249). -/
def daaAfterAdd (a : Byte) (h c : Bool) : Byte × Bool :=
  let low : Bool := h || decide ((a &&& 0x0F).toNat > 0x09)
  let high : Bool := c || decide (a.toNat > 0x99)
  (a + ((if low then 0x06 else 0x00) ||| (if high then 0x60 else 0x00)), high)

/-- DAA after a subtraction (N = 1) (R249). -/
def daaAfterSub (a : Byte) (h c : Bool) : Byte × Bool :=
  (a - ((if h then 0x06 else 0x00) ||| (if c then 0x60 else 0x00)), c)

/-- DAA: A after, and the flags (R249). -/
def daaResult (a : Byte) (f : Flags) : Byte × Flags :=
  let rc := if f.n then daaAfterSub a f.h f.c else daaAfterAdd a f.h f.c
  (rc.1, { z := decide (rc.1 = 0), n := f.n, h := false, c := rc.2 })

/-- CPL: N and H set, Z and C kept (R250). -/
def cplFlags (f : Flags) : Flags := { f with n := true, h := true }

/-- SCF: N and H cleared, C set, Z kept (R251). -/
def scfFlags (f : Flags) : Flags := { f with n := false, h := false, c := true }

/-- CCF: N and H cleared, C complemented, Z kept (R252). -/
def ccfFlags (f : Flags) : Flags := { f with n := false, h := false, c := !f.c }

/-- ADD HL,rr: H out of bit 11, C out of bit 15, Z kept (R261). -/
def addHlFlags (f : Flags) (a b : Word) : Flags :=
  { f with n := false, h := half16 a b, c := carry16 a b }

/-- ADD SP,e and LD HL,SP+e: the carries of the unsigned addition of the operand byte to SP's low byte
(R204, R264). -/
def addSpFlags (sp : Word) (n : Byte) : Flags :=
  { z := false, n := false, h := half8 (loByte sp) n false, c := carry8 (loByte sp) n false }

/-- A row of the rotate and shift table of R270: the result and the carry out. -/
def rotResult (op : RotOp) (v : Byte) (c : Bool) : Byte × Bool :=
  match op with
  | .rlc => (v.rotateLeft 1, v.getLsbD 7)
  | .rrc => (v.rotateRight 1, v.getLsbD 0)
  | .rl => ((v <<< 1) ||| carryByte c, v.getLsbD 7)
  | .rr => ((v >>> 1) ||| (carryByte c <<< 7), v.getLsbD 0)
  | .sla => (v <<< 1, v.getLsbD 7)
  | .sra => (v.sshiftRight 1, v.getLsbD 0)
  | .swap => (v.rotateLeft 4, false)
  | .srl => (v >>> 1, v.getLsbD 0)

/-- The flags of the extended rotates and shifts (R270). -/
def rotFlags (r : Byte) (cout : Bool) : Flags :=
  { z := decide (r = 0), n := false, h := false, c := cout }

/-- The flags of the accumulator rotates: Z cleared whatever the result (R271 to R274). -/
def rotAFlags (cout : Bool) : Flags := { z := false, n := false, h := false, c := cout }

/-- BIT: Z is the complement of the tested bit, N cleared, H set, C kept (R291). -/
def bitFlags (f : Flags) (v : Byte) (b : Fin 8) : Flags :=
  { f with z := !v.getLsbD b.val, n := false, h := true }

/-- `v & ~(1 << b)` (R293). -/
def clearBit (v : Byte) (b : Fin 8) : Byte := v &&& ~~~((1 : Byte) <<< b.val)

/-- `v | (1 << b)` (R295). -/
def assertBit (v : Byte) (b : Fin 8) : Byte := v ||| ((1 : Byte) <<< b.val)

end Sys2Proof.Machine
end

