-- ==== Sys2Proof/Machine/Params.lean ====
section
/-! DEFINITION. The named parameters of spec 00_scope.md R10, each at the value the spec takes for it, what an
unlisted byte of a store reads as, and the size codes of the cartridge header (spec 20_memory.md R104). -/

namespace Sys2Proof.Machine

/-- What a byte of a store that is not listed reads as: the reset value of every writable byte (R62, R440) and
of every ROM byte the image does not list (notes/assumptions/2.md). -/
def unlistedByte : Byte := 0x00

/-- `UNMAPPED_READ` (R10, R90, R94; decision D11). -/
def unmappedRead : Byte := 0xFF

/-- What a read of disabled or absent external RAM returns (R87). -/
def eramDisabledRead : Byte := 0x00

/-- `OAM_BUDGET` (R10, R405). -/
def oamBudget : Nat := 80

/-- `VRAM_BUDGET` (R10, R405). -/
def vramBudget : Nat := 172

/-- `HBLANK_BUDGET` (R10, R405). -/
def hblankBudget : Nat := 204

/-- `VBLANK_LINE_BUDGET` (R10, R405; decision D19). -/
def vblankLineBudget : Nat := 456

/-- The clock edges a phase lasts; in vertical blank, one line slot (R405). -/
def phaseBudget : Phase → Nat
  | .oamScan => oamBudget
  | .vramScan => vramBudget
  | .hblank => hblankBudget
  | .vblank => vblankLineBudget

/-- `DIV_STEP`: clock edges per increment of the divider (R10, R381; decision D29). -/
def divStep : Nat := 1

/-- `TIMER_DIVISOR[0..3]` (R10, R383; decision D30). -/
def timerDivisor (rate : BitVec 2) : Nat :=
  if rate = 0 then 1024 else if rate = 1 then 16 else if rate = 2 then 64 else 256

/-- `HALT_IDLE_MCYCLES` (R10, R401; decision D32). -/
def haltIdleMcycles : Nat := 1

/-- Clock edges in a machine cycle (R11). -/
def edgesPerMcycle : Nat := 4

/-- The entry point (R40, R443). -/
def entryPoint : Word := 0x0100

/-- `ROM_BANKS` from the header's ROM size code; none for an unsupported code (R104). -/
def romBanksOfCode (code : Byte) : Option Nat :=
  if code.toNat ≤ 6 then some (2 <<< code.toNat) else none

/-- `RAM_BANKS` from the header's RAM size code; none for an unsupported code (R104). -/
def ramBanksOfCode (code : Byte) : Option Nat :=
  if code = 0x00 then some 0
  else if code = 0x01 then some 1
  else if code = 0x02 then some 1
  else if code = 0x03 then some 4
  else none

end Sys2Proof.Machine
end

