-- ==== Sys2Proof/Machine/Store.lean ====
section
/-! DEFINITION. Sparse stores: a list of (key, value) pairs with strictly rising keys and no entry equal to
the value an unlisted key reads as, so that equal stores are equal lists. -/

namespace Sys2Proof.Machine

/-- The value at key `k`; `d` where `k` is not listed. -/
def storeGet {α : Type} (d : α) : List (Nat × α) → Nat → α
  | [], _ => d
  | (k', v) :: m, k => if k = k' then v else storeGet d m k

/-- Writes `v` at key `k`; writing the unlisted value `d` removes the entry. -/
def storeSet {α : Type} [DecidableEq α] (d : α) : List (Nat × α) → Nat → α → List (Nat × α)
  | [], k, v => if v = d then [] else [(k, v)]
  | (k', v') :: m, k, v =>
    if k < k' then (if v = d then (k', v') :: m else (k, v) :: (k', v') :: m)
    else if k = k' then (if v = d then m else (k, v) :: m)
    else (k', v') :: storeSet d m k v

/-- Every key of the store is greater than `k`, and at least the first one is (the others follow in a store
with rising keys). -/
def keyAbove {α : Type} (k : Nat) : List (Nat × α) → Bool
  | [] => true
  | (k', _) :: _ => decide (k < k')

/-- The canonical form: keys strictly rising, no entry equal to the unlisted value. -/
def storeWf {α : Type} [DecidableEq α] (d : α) : List (Nat × α) → Bool
  | [] => true
  | (k, v) :: m => decide (v ≠ d) && keyAbove k m && storeWf d m

end Sys2Proof.Machine
end

