-- ==== Sys2Proof/Machine/Ops.lean ====
section
/-! DEFINITION. The named operations over memory and registers: the address map and the bus read and write
(spec 20_memory.md R81 to R107, 10_state.md R45 to R60), the stack primitives (spec 00_scope.md R16), the
fatal condition as the machine is left by it, interrupt dispatch and the return from it
(spec 60_exceptions.md R340, R360, R364). -/

namespace Sys2Proof.Machine

/-- The peripheral registers of the window 0xFF00 to 0xFF7F (R45, R91). -/
inductive IoReg where
  | p1
  | sb
  | sc
  | div
  | tima
  | tma
  | tac
  | irq
  | audio (off : Nat)
  | lcdc
  | stat
  | scy
  | scx
  | ly
  | lyc
  | dma
  | bgp
  | obp0
  | obp1
  | wy
  | wx
  | unmapped
  deriving DecidableEq, Repr

/-- What owns a bus address, with the offset inside the owner (R81). -/
inductive Region where
  | rom0 (off : Nat)
  | romBank (off : Nat)
  | vram (off : Nat)
  | eram (off : Nat)
  | wram (off : Nat)
  | oam (off : Nat)
  | unmapped
  | io (r : IoReg)
  | hram (off : Nat)
  | ie
  deriving DecidableEq, Repr

/-- The decode of the peripheral window by the low byte of the address (R91, R94). -/
def ioReg (k : Nat) : IoReg :=
  if k = 0x00 then .p1
  else if k = 0x01 then .sb
  else if k = 0x02 then .sc
  else if k = 0x04 then .div
  else if k = 0x05 then .tima
  else if k = 0x06 then .tma
  else if k = 0x07 then .tac
  else if k = 0x0F then .irq
  else if 0x10 ≤ k ∧ k ≤ 0x3F then .audio (k - 0x10)
  else if k = 0x40 then .lcdc
  else if k = 0x41 then .stat
  else if k = 0x42 then .scy
  else if k = 0x43 then .scx
  else if k = 0x44 then .ly
  else if k = 0x45 then .lyc
  else if k = 0x46 then .dma
  else if k = 0x47 then .bgp
  else if k = 0x48 then .obp0
  else if k = 0x49 then .obp1
  else if k = 0x4A then .wy
  else if k = 0x4B then .wx
  else .unmapped

/-- The address map: exactly one owner for any address (R81). -/
def busRegion (a : Word) : Region :=
  let k := a.toNat
  if k ≤ 0x3FFF then .rom0 k
  else if k ≤ 0x7FFF then .romBank (k - 0x4000)
  else if k ≤ 0x9FFF then .vram (k - 0x8000)
  else if k ≤ 0xBFFF then .eram (k - 0xA000)
  else if k ≤ 0xDFFF then .wram (k - 0xC000)
  else if k ≤ 0xFDFF then .wram (k - 0xE000)
  else if k ≤ 0xFE9F then .oam (k - 0xFE00)
  else if k ≤ 0xFEFF then .unmapped
  else if k ≤ 0xFF7F then .io (ioReg (k - 0xFF00))
  else if k ≤ 0xFFFE then .hram (k - 0xFF80)
  else .ie

/-- The byte of a memory at an offset. -/
def Memory.read (m : Memory) (off : Nat) : Byte := storeGet unlistedByte m off

/-- The memory with one byte written. -/
def Memory.write (m : Memory) (off : Nat) (v : Byte) : Memory := storeSet unlistedByte m off v

/-- The canonical form of a memory. -/
def Memory.wf (m : Memory) : Bool := storeWf unlistedByte m

/-- STAT bits 1:0 for each phase (R54). -/
def Phase.mode : Phase → BitVec 2
  | .hblank => 0
  | .vblank => 1
  | .oamScan => 2
  | .vramScan => 3

/-- A read of P1: the selected key group in bits 3:0 (R46). -/
def Joypad.readP1 (j : Joypad) : Byte :=
  if j.sel = 0b01 then j.keysAct.setWidth 8
  else if j.sel = 0b10 then j.keysDir.setWidth 8
  else 0x0F

/-- A read of STAT: `(0, stat_en, LY == LYC, mode)` (R54). -/
def Ppu.readStat (p : Ppu) : Byte :=
  (0 : BitVec 1) ++ p.statEn ++ (if p.line = p.lyc then (1 : BitVec 1) else 0) ++ p.phase.mode

/-- `IoRead` (R91). -/
def ioRead (s : State) : IoReg → Byte
  | .p1 => s.joypad.readP1
  | .sb => s.mmu.sb
  | .sc => s.mmu.sc
  | .div => hiByte s.timer.div16
  | .tima => s.timer.tima
  | .tma => s.timer.tma
  | .tac => s.timer.tac.setWidth 8
  | .irq => s.mmu.irq.setWidth 8
  | .audio off => s.mmu.audio.read off
  | .lcdc => s.ppu.lcdc
  | .stat => s.ppu.readStat
  | .scy => s.ppu.scy
  | .scx => s.ppu.scx
  | .ly => s.ppu.line
  | .lyc => s.ppu.lyc
  | .dma => s.ppu.dma
  | .bgp => s.ppu.bgp
  | .obp0 => s.ppu.obp0
  | .obp1 => s.ppu.obp1
  | .wy => s.ppu.wy
  | .wx => s.ppu.wx
  | .unmapped => unmappedRead

/-- The ROM offset of the switchable window (R85, R107). -/
def romOffset (s : State) (off : Nat) : Nat := s.mmu.romBank.toNat * Config.romBankBytes + off

/-- The external RAM offset of the window 0xA000 to 0xBFFF (R87, R107). -/
def eramOffset (s : State) (off : Nat) : Nat := s.mmu.ramBank.toNat * Config.ramBankBytes + off

/-- External RAM is switched on and fitted (R87). -/
def eramUsable (s : State) : Bool := s.mmu.ramEnable && decide (s.cart.ramBanks > 0)

/-- `EramRead` (R87). -/
def eramRead (s : State) (off : Nat) : Byte :=
  if eramUsable s then s.mmu.eram.read (eramOffset s off) else eramDisabledRead

/-- A read of the place a region names. -/
def regionRead (s : State) : Region → Byte
  | .rom0 off => s.cart.rom.read off
  | .romBank off => s.cart.rom.read (romOffset s off)
  | .vram off => s.ppu.vram.read off
  | .eram off => eramRead s off
  | .wram off => s.mmu.wram.read off
  | .oam off => s.ppu.oam.read off
  | .unmapped => unmappedRead
  | .io r => ioRead s r
  | .hram off => s.mmu.hram.read off
  | .ie => s.mmu.ie.setWidth 8

/-- `MemRead(addr, 1)`: never faults and changes no state (R82). -/
def memRead (s : State) (a : Word) : Byte := regionRead s (busRegion a)

/-- `MemRead(addr, 2)`, little-endian, the second address wrapping (R14, R110, R111). -/
def memRead16 (s : State) (a : Word) : Word := joinBytes (memRead s (a + 1)) (memRead s a)

/-- One byte of the sprite-table copy (R98). -/
def dmaByte (src : Byte) (s : State) (i : Nat) : State :=
  { s with ppu := { s.ppu with oam := s.ppu.oam.write i (memRead s (joinBytes src (BitVec.ofNat 8 i))) } }

/-- A write to DMA: store `v`, then copy 160 bytes from page `v` into the sprite table (R58, R98). -/
def dmaWrite (s : State) (v : Byte) : State :=
  (List.range Config.oamBytes).foldl (dmaByte v) { s with ppu := { s.ppu with dma := v } }

/-- `IoWrite` (R91). -/
def ioWrite (s : State) (r : IoReg) (v : Byte) : State :=
  match r with
  | .p1 => { s with joypad := { s.joypad with sel := v.extractLsb' 4 2 } }
  | .sb => { s with mmu := { s.mmu with sb := v } }
  | .sc => { s with mmu := { s.mmu with sc := v } }
  | .div => { s with timer := { s.timer with div16 := 0 } }
  | .tima => { s with timer := { s.timer with tima := v } }
  | .tma => { s with timer := { s.timer with tma := v } }
  | .tac => { s with timer := { s.timer with tac := v.setWidth 3 } }
  | .irq => { s with mmu := { s.mmu with irq := v.setWidth 5 } }
  | .audio off => { s with mmu := { s.mmu with audio := s.mmu.audio.write off v } }
  | .lcdc => { s with ppu := { s.ppu with lcdc := v } }
  | .stat => { s with ppu := { s.ppu with statEn := v.extractLsb' 3 4 } }
  | .scy => { s with ppu := { s.ppu with scy := v } }
  | .scx => { s with ppu := { s.ppu with scx := v } }
  | .ly => s
  | .lyc => { s with ppu := { s.ppu with lyc := v } }
  | .dma => dmaWrite s v
  | .bgp => { s with ppu := { s.ppu with bgp := v } }
  | .obp0 => { s with ppu := { s.ppu with obp0 := v } }
  | .obp1 => { s with ppu := { s.ppu with obp1 := v } }
  | .wy => { s with ppu := { s.ppu with wy := v } }
  | .wx => { s with ppu := { s.ppu with wx := v } }
  | .unmapped => s

/-- The ROM bank a write of `v` to 0x2000 to 0x3FFF asks for: the 5-bit field, 0 aliased to 1, below the
upper bits as they are (R101). -/
def romBankLowCand (s : State) (v : Byte) : BitVec 7 :=
  let low : BitVec 5 := v.setWidth 5
  s.mmu.romBank.extractLsb' 5 2 ++ (if low = 0 then (1 : BitVec 5) else low)

/-- The ROM bank a write of `v` to 0x4000 to 0x5FFF asks for in ROM-banking mode (R102). -/
def romBankHighCand (s : State) (v : Byte) : BitVec 7 := (v.setWidth 2 : BitVec 2) ++ (s.mmu.romBank.setWidth 5 : BitVec 5)

/-- `rom_bank <- cand`, or the fatal bank-index condition (R101, R102, R105). -/
def selectRomBank (s : State) (cand : BitVec 7) : Except Fault State :=
  if cand.toNat ≥ s.cart.romBanks then .error (.bankIndexOutOfRange cand.toNat)
  else .ok { s with mmu := { s.mmu with romBank := cand } }

/-- `ram_bank <- cand`, or the fatal bank-index condition (R102, R105). -/
def selectRamBank (s : State) (cand : BitVec 2) : Except Fault State :=
  if cand.toNat ≥ max s.cart.ramBanks 1 then .error (.bankIndexOutOfRange cand.toNat)
  else .ok { s with mmu := { s.mmu with ramBank := cand } }

/-- `BankCommand(addr, v)`: a write into the ROM range (R99 to R103). -/
def bankCommand (s : State) (a : Word) (v : Byte) : Except Fault State :=
  if s.cart.banked then
    if a.toNat ≤ 0x1FFF then
      .ok { s with mmu := { s.mmu with ramEnable := decide (v &&& 0x0F = 0x0A) } }
    else if a.toNat ≤ 0x3FFF then selectRomBank s (romBankLowCand s v)
    else if a.toNat ≤ 0x5FFF then
      if s.mmu.bankMode then selectRamBank s (v.setWidth 2) else selectRomBank s (romBankHighCand s v)
    else .ok { s with mmu := { s.mmu with bankMode := v.getLsbD 0 } }
  else .ok s

/-- `EramWrite` (R87). -/
def eramWrite (s : State) (off : Nat) (v : Byte) : State :=
  if eramUsable s then { s with mmu := { s.mmu with eram := s.mmu.eram.write (eramOffset s off) v } } else s

/-- `MemWrite(addr, 1, v)` (R83). -/
def memWrite (s : State) (a : Word) (v : Byte) : Except Fault State :=
  match busRegion a with
  | .rom0 _ => bankCommand s a v
  | .romBank _ => bankCommand s a v
  | .vram off => .ok { s with ppu := { s.ppu with vram := s.ppu.vram.write off v } }
  | .eram off => .ok (eramWrite s off v)
  | .wram off => .ok { s with mmu := { s.mmu with wram := s.mmu.wram.write off v } }
  | .oam off => .ok { s with ppu := { s.ppu with oam := s.ppu.oam.write off v } }
  | .unmapped => .ok s
  | .io r => .ok (ioWrite s r v)
  | .hram off => .ok { s with mmu := { s.mmu with hram := s.mmu.hram.write off v } }
  | .ie => .ok { s with mmu := { s.mmu with ie := v.setWidth 5 } }

/-- `MemWrite(addr, 2, v)`: the low byte first, the second address wrapping (R14, R110, R115). -/
def memWrite16 (s : State) (a : Word) (v : Word) : Except Fault State :=
  match memWrite s a (loByte v) with
  | .error f => .error f
  | .ok s' => memWrite s' (a + 1) (hiByte v)

/-- `Push16(v)`: `SP <- SP - 2; MemWrite(SP, 2, v)` (R16). -/
def push16 (s : State) (v : Word) : Except Fault State :=
  memWrite16 (s.withCpu { s.cpu with sp := s.cpu.sp - 2 }) (s.cpu.sp - 2) v

/-- The word `Pop16()` returns (R16). -/
def popWord (s : State) : Word := memRead16 s s.cpu.sp

/-- The CPU with SP as `Pop16()` leaves it (R16). -/
def Cpu.popped (c : Cpu) : Cpu := { c with sp := c.sp + 2 }

/-- An instruction's bus write followed by the rest of it: the fatal condition ends the step and nothing after it
runs (R17, R340). -/
def afterWrite (w : Except Fault State) (k : State → State) : Result :=
  match w with
  | .ok s => .next (k s)
  | .error f => .fault f

/-- The machine as a fatal condition leaves it: the state before the macro-step, with the STOPPED latch set to
the condition's kind and information (R44, R340). -/
def State.latchFatal (s : State) (f : Fault) : State := { s with stopped := some f }

/-- The five interrupt sources in priority order (R350). -/
inductive IrqSource where
  | vblank
  | lcdStatus
  | timer
  | serial
  | joypad
  deriving DecidableEq, Repr

/-- The bit of IE and IF (R51, R350). -/
def IrqSource.index : IrqSource → Nat
  | .vblank => 0
  | .lcdStatus => 1
  | .timer => 2
  | .serial => 3
  | .joypad => 4

/-- The vector `0x0040 + 8*i` (R350, R360). -/
def IrqSource.vector (i : IrqSource) : Word := 0x0040 + 8 * BitVec.ofNat 16 i.index

/-- The mask with only the source's bit. -/
def IrqSource.mask (i : IrqSource) : BitVec 5 := (1 : BitVec 5) <<< i.index

/-- `request(i)`: `IF[i] <- 1` (R351). -/
def State.request (s : State) (i : IrqSource) : State :=
  { s with mmu := { s.mmu with irq := s.mmu.irq ||| i.mask } }

/-- `IE & IF` (R357). -/
def State.pendingMask (s : State) : BitVec 5 := s.mmu.ie &&& s.mmu.irq

/-- The lowest-numbered set bit of a mask (R360, R361). -/
def lowestSource (pend : BitVec 5) : Option IrqSource :=
  if pend.getLsbD 0 then some .vblank
  else if pend.getLsbD 1 then some .lcdStatus
  else if pend.getLsbD 2 then some .timer
  else if pend.getLsbD 3 then some .serial
  else if pend.getLsbD 4 then some .joypad
  else none

/-- Taking an interrupt: `IF[i] <- 0; IME <- 0; Push16(PC); PC <- vector` (R360, R362). -/
def takeInterrupt (s : State) (i : IrqSource) : Except Fault State :=
  let s1 : State := { s with mmu := { s.mmu with irq := s.mmu.irq &&& ~~~i.mask } }
  match push16 (s1.withCpu { s1.cpu with ime := false }) s.cpu.pc with
  | .error f => .error f
  | .ok s2 => .ok (s2.withCpu { s2.cpu with pc := i.vector })

/-- Returning from an interrupt: `PC <- Pop16(); IME <- 1` (R312, R364). -/
def Cpu.returnTo (c : Cpu) (target : Word) (m : Nat) : Cpu := { (c.popped.jump target m) with ime := true }

/-- The interrupt evaluation at the end of a macro-step: HALT wake, then dispatch (R358 to R360). -/
def interruptEvaluation (s : State) : Except Fault State :=
  match lowestSource s.pendingMask with
  | none => .ok s
  | some i =>
    let awake := s.withCpu { s.cpu with halted := false }
    if s.cpu.ime then takeInterrupt awake i else .ok awake

end Sys2Proof.Machine
end

