-- ==== Sys2Proof/Machine/Alu16.lean ====
section
/-! DEFINITION. The 16-bit arithmetic instructions (spec 43_alu16.md). -/

namespace Sys2Proof.Machine

/-- `HL <- HL + xx[p]` (R261). -/
def addHl (p : Pair) (s : State) : Result :=
  let a := s.cpu.hl
  let b := s.cpu.pair p
  .next (s.withCpu ((({ s.cpu with f := addHlFlags s.cpu.f a b } : Cpu).setHl (a + b)).retire 1 2))

/-- `xx[p] <- xx[p] + delta`, no flag (R262, R263). -/
def stepPair (p : Pair) (delta : Word) (s : State) : Result :=
  .next (s.withCpu ((s.cpu.setPair p (s.cpu.pair p + delta)).retire 1 2))

/-- `SP <- SP + sext_16(n)`, both carries from the low byte (R264). -/
def addSp (n : Byte) (s : State) : Result :=
  .next (s.withCpu
    (({ s.cpu with sp := s.cpu.sp + sext16 n, f := addSpFlags s.cpu.sp n } : Cpu).retire 2 4))

/-- `INC BC` (R262). -/
def exec_inc_BC (s : State) : Result := stepPair .bc 1 s

/-- `ADD HL,BC` (R261). -/
def exec_add_HL_BC (s : State) : Result := addHl .bc s

/-- `DEC BC` (R263). -/
def exec_dec_BC (s : State) : Result := stepPair .bc (-1) s

/-- `INC DE` (R262). -/
def exec_inc_DE (s : State) : Result := stepPair .de 1 s

/-- `ADD HL,DE` (R261). -/
def exec_add_HL_DE (s : State) : Result := addHl .de s

/-- `DEC DE` (R263). -/
def exec_dec_DE (s : State) : Result := stepPair .de (-1) s

/-- `INC HL` (R262). -/
def exec_inc_HL (s : State) : Result := stepPair .hl 1 s

/-- `ADD HL,HL` (R261). -/
def exec_add_HL_HL (s : State) : Result := addHl .hl s

/-- `DEC HL` (R263). -/
def exec_dec_HL (s : State) : Result := stepPair .hl (-1) s

/-- `INC SP` (R262). -/
def exec_inc_SP (s : State) : Result := stepPair .sp 1 s

/-- `ADD HL,SP` (R261). -/
def exec_add_HL_SP (s : State) : Result := addHl .sp s

/-- `DEC SP` (R263). -/
def exec_dec_SP (s : State) : Result := stepPair .sp (-1) s

/-- `ADD SP,e` (R264). -/
def exec_add_SP_e (n : Byte) (s : State) : Result := addSp n s

end Sys2Proof.Machine
end

