-- ==== Sys2Proof/Machine/Alu8.lean ====
section
/-! DEFINITION. The 8-bit arithmetic and logic instructions (spec 42_alu8.md). -/

namespace Sys2Proof.Machine

/-- A and F replaced together. -/
def Cpu.setAF (c : Cpu) (af : Byte × Flags) : Cpu := { c with a := af.1, f := af.2 }

/-- A row of R220 with the operand `v`: A and F after. -/
def Cpu.alu (c : Cpu) (op : AluOp) (v : Byte) : Cpu := c.setAF (aluResult op c.a v c.f.c)

/-- The register form (R220). -/
def aluReg (op : AluOp) (r : Reg) (s : State) : Result :=
  .next (s.withCpu ((s.cpu.alu op (s.cpu.reg r)).retire 1 1))

/-- The memory form (R220). -/
def aluMem (op : AluOp) (s : State) : Result :=
  .next (s.withCpu ((s.cpu.alu op (memRead s s.cpu.hl)).retire 1 2))

/-- The immediate form (R220). -/
def aluImm (op : AluOp) (n : Byte) (s : State) : Result :=
  .next (s.withCpu ((s.cpu.alu op n).retire 2 2))

/-- `x[dst] <- x[dst] + 1` (R245). -/
def incReg (dst : Reg) (s : State) : Result :=
  let v := s.cpu.reg dst
  .next (s.withCpu ((({ s.cpu with f := incFlags s.cpu.f v } : Cpu).setReg dst (v + 1)).retire 1 1))

/-- `x[dst] <- x[dst] - 1` (R247). -/
def decReg (dst : Reg) (s : State) : Result :=
  let v := s.cpu.reg dst
  .next (s.withCpu ((({ s.cpu with f := decFlags s.cpu.f v } : Cpu).setReg dst (v - 1)).retire 1 1))

/-- A read of the byte at HL, a write of `r` there, the flags `f`, length `len` and cost `m`. -/
def modifyMem (r : Byte) (f : Flags) (len : Word) (m : Nat) (s : State) : Result :=
  afterWrite (memWrite s s.cpu.hl r) fun t =>
    t.withCpu (({ t.cpu with f := f } : Cpu).retire len m)

/-- The byte at HL incremented (R246). -/
def incMem (s : State) : Result :=
  modifyMem (memRead s s.cpu.hl + 1) (incFlags s.cpu.f (memRead s s.cpu.hl)) 1 3 s

/-- The byte at HL decremented (R248). -/
def decMem (s : State) : Result :=
  modifyMem (memRead s s.cpu.hl - 1) (decFlags s.cpu.f (memRead s s.cpu.hl)) 1 3 s

/-- The one-byte instructions on A and F alone: DAA, CPL, SCF, CCF (R249 to R252). -/
def adjustA (af : Byte × Flags) (s : State) : Result := .next (s.withCpu ((s.cpu.setAF af).retire 1 1))

/-- `INC B` (R245). -/
def exec_inc_B (s : State) : Result := incReg .b s

/-- `DEC B` (R247). -/
def exec_dec_B (s : State) : Result := decReg .b s

/-- `INC C` (R245). -/
def exec_inc_C (s : State) : Result := incReg .c s

/-- `DEC C` (R247). -/
def exec_dec_C (s : State) : Result := decReg .c s

/-- `INC D` (R245). -/
def exec_inc_D (s : State) : Result := incReg .d s

/-- `DEC D` (R247). -/
def exec_dec_D (s : State) : Result := decReg .d s

/-- `INC E` (R245). -/
def exec_inc_E (s : State) : Result := incReg .e s

/-- `DEC E` (R247). -/
def exec_dec_E (s : State) : Result := decReg .e s

/-- `INC H` (R245). -/
def exec_inc_H (s : State) : Result := incReg .h s

/-- `DEC H` (R247). -/
def exec_dec_H (s : State) : Result := decReg .h s

/-- `DAA` (R249). -/
def exec_daa (s : State) : Result := adjustA (daaResult s.cpu.a s.cpu.f) s

/-- `INC L` (R245). -/
def exec_inc_L (s : State) : Result := incReg .l s

/-- `DEC L` (R247). -/
def exec_dec_L (s : State) : Result := decReg .l s

/-- `CPL` (R250). -/
def exec_cpl (s : State) : Result := adjustA (~~~s.cpu.a, cplFlags s.cpu.f) s

/-- `INC (HL)` (R246). -/
def exec_inc_atHL (s : State) : Result := incMem s

/-- `DEC (HL)` (R248). -/
def exec_dec_atHL (s : State) : Result := decMem s

/-- `SCF` (R251). -/
def exec_scf (s : State) : Result := adjustA (s.cpu.a, scfFlags s.cpu.f) s

/-- `INC A` (R245). -/
def exec_inc_A (s : State) : Result := incReg .a s

/-- `DEC A` (R247). -/
def exec_dec_A (s : State) : Result := decReg .a s

/-- `CCF` (R252). -/
def exec_ccf (s : State) : Result := adjustA (s.cpu.a, ccfFlags s.cpu.f) s

/-- `ADD A,B` (R221). -/
def exec_add_A_B (s : State) : Result := aluReg .add .b s

/-- `ADD A,C` (R221). -/
def exec_add_A_C (s : State) : Result := aluReg .add .c s

/-- `ADD A,D` (R221). -/
def exec_add_A_D (s : State) : Result := aluReg .add .d s

/-- `ADD A,E` (R221). -/
def exec_add_A_E (s : State) : Result := aluReg .add .e s

/-- `ADD A,H` (R221). -/
def exec_add_A_H (s : State) : Result := aluReg .add .h s

/-- `ADD A,L` (R221). -/
def exec_add_A_L (s : State) : Result := aluReg .add .l s

/-- `ADD A,(HL)` (R222). -/
def exec_add_A_atHL (s : State) : Result := aluMem .add s

/-- `ADD A,A` (R221). -/
def exec_add_A_A (s : State) : Result := aluReg .add .a s

/-- `ADC A,B` (R224). -/
def exec_adc_A_B (s : State) : Result := aluReg .adc .b s

/-- `ADC A,C` (R224). -/
def exec_adc_A_C (s : State) : Result := aluReg .adc .c s

/-- `ADC A,D` (R224). -/
def exec_adc_A_D (s : State) : Result := aluReg .adc .d s

/-- `ADC A,E` (R224). -/
def exec_adc_A_E (s : State) : Result := aluReg .adc .e s

/-- `ADC A,H` (R224). -/
def exec_adc_A_H (s : State) : Result := aluReg .adc .h s

/-- `ADC A,L` (R224). -/
def exec_adc_A_L (s : State) : Result := aluReg .adc .l s

/-- `ADC A,(HL)` (R225). -/
def exec_adc_A_atHL (s : State) : Result := aluMem .adc s

/-- `ADC A,A` (R224). -/
def exec_adc_A_A (s : State) : Result := aluReg .adc .a s

/-- `SUB B` (R227). -/
def exec_sub_B (s : State) : Result := aluReg .sub .b s

/-- `SUB C` (R227). -/
def exec_sub_C (s : State) : Result := aluReg .sub .c s

/-- `SUB D` (R227). -/
def exec_sub_D (s : State) : Result := aluReg .sub .d s

/-- `SUB E` (R227). -/
def exec_sub_E (s : State) : Result := aluReg .sub .e s

/-- `SUB H` (R227). -/
def exec_sub_H (s : State) : Result := aluReg .sub .h s

/-- `SUB L` (R227). -/
def exec_sub_L (s : State) : Result := aluReg .sub .l s

/-- `SUB (HL)` (R228). -/
def exec_sub_atHL (s : State) : Result := aluMem .sub s

/-- `SUB A` (R227). -/
def exec_sub_A (s : State) : Result := aluReg .sub .a s

/-- `SBC A,B` (R230). -/
def exec_sbc_A_B (s : State) : Result := aluReg .sbc .b s

/-- `SBC A,C` (R230). -/
def exec_sbc_A_C (s : State) : Result := aluReg .sbc .c s

/-- `SBC A,D` (R230). -/
def exec_sbc_A_D (s : State) : Result := aluReg .sbc .d s

/-- `SBC A,E` (R230). -/
def exec_sbc_A_E (s : State) : Result := aluReg .sbc .e s

/-- `SBC A,H` (R230). -/
def exec_sbc_A_H (s : State) : Result := aluReg .sbc .h s

/-- `SBC A,L` (R230). -/
def exec_sbc_A_L (s : State) : Result := aluReg .sbc .l s

/-- `SBC A,(HL)` (R231). -/
def exec_sbc_A_atHL (s : State) : Result := aluMem .sbc s

/-- `SBC A,A` (R230). -/
def exec_sbc_A_A (s : State) : Result := aluReg .sbc .a s

/-- `AND B` (R233). -/
def exec_and_B (s : State) : Result := aluReg .and .b s

/-- `AND C` (R233). -/
def exec_and_C (s : State) : Result := aluReg .and .c s

/-- `AND D` (R233). -/
def exec_and_D (s : State) : Result := aluReg .and .d s

/-- `AND E` (R233). -/
def exec_and_E (s : State) : Result := aluReg .and .e s

/-- `AND H` (R233). -/
def exec_and_H (s : State) : Result := aluReg .and .h s

/-- `AND L` (R233). -/
def exec_and_L (s : State) : Result := aluReg .and .l s

/-- `AND (HL)` (R234). -/
def exec_and_atHL (s : State) : Result := aluMem .and s

/-- `AND A` (R233). -/
def exec_and_A (s : State) : Result := aluReg .and .a s

/-- `XOR B` (R236). -/
def exec_xor_B (s : State) : Result := aluReg .xor .b s

/-- `XOR C` (R236). -/
def exec_xor_C (s : State) : Result := aluReg .xor .c s

/-- `XOR D` (R236). -/
def exec_xor_D (s : State) : Result := aluReg .xor .d s

/-- `XOR E` (R236). -/
def exec_xor_E (s : State) : Result := aluReg .xor .e s

/-- `XOR H` (R236). -/
def exec_xor_H (s : State) : Result := aluReg .xor .h s

/-- `XOR L` (R236). -/
def exec_xor_L (s : State) : Result := aluReg .xor .l s

/-- `XOR (HL)` (R237). -/
def exec_xor_atHL (s : State) : Result := aluMem .xor s

/-- `XOR A` (R236). -/
def exec_xor_A (s : State) : Result := aluReg .xor .a s

/-- `OR B` (R239). -/
def exec_or_B (s : State) : Result := aluReg .or .b s

/-- `OR C` (R239). -/
def exec_or_C (s : State) : Result := aluReg .or .c s

/-- `OR D` (R239). -/
def exec_or_D (s : State) : Result := aluReg .or .d s

/-- `OR E` (R239). -/
def exec_or_E (s : State) : Result := aluReg .or .e s

/-- `OR H` (R239). -/
def exec_or_H (s : State) : Result := aluReg .or .h s

/-- `OR L` (R239). -/
def exec_or_L (s : State) : Result := aluReg .or .l s

/-- `OR (HL)` (R240). -/
def exec_or_atHL (s : State) : Result := aluMem .or s

/-- `OR A` (R239). -/
def exec_or_A (s : State) : Result := aluReg .or .a s

/-- `CP B` (R242). -/
def exec_cp_B (s : State) : Result := aluReg .cp .b s

/-- `CP C` (R242). -/
def exec_cp_C (s : State) : Result := aluReg .cp .c s

/-- `CP D` (R242). -/
def exec_cp_D (s : State) : Result := aluReg .cp .d s

/-- `CP E` (R242). -/
def exec_cp_E (s : State) : Result := aluReg .cp .e s

/-- `CP H` (R242). -/
def exec_cp_H (s : State) : Result := aluReg .cp .h s

/-- `CP L` (R242). -/
def exec_cp_L (s : State) : Result := aluReg .cp .l s

/-- `CP (HL)` (R243). -/
def exec_cp_atHL (s : State) : Result := aluMem .cp s

/-- `CP A` (R242). -/
def exec_cp_A (s : State) : Result := aluReg .cp .a s

/-- `ADD A,n` (R223). -/
def exec_add_A_n (n : Byte) (s : State) : Result := aluImm .add n s

/-- `ADC A,n` (R226). -/
def exec_adc_A_n (n : Byte) (s : State) : Result := aluImm .adc n s

/-- `SUB n` (R229). -/
def exec_sub_n (n : Byte) (s : State) : Result := aluImm .sub n s

/-- `SBC A,n` (R232). -/
def exec_sbc_A_n (n : Byte) (s : State) : Result := aluImm .sbc n s

/-- `AND n` (R235). -/
def exec_and_n (n : Byte) (s : State) : Result := aluImm .and n s

/-- `XOR n` (R238). -/
def exec_xor_n (n : Byte) (s : State) : Result := aluImm .xor n s

/-- `OR n` (R241). -/
def exec_or_n (n : Byte) (s : State) : Result := aluImm .or n s

/-- `CP n` (R244). -/
def exec_cp_n (n : Byte) (s : State) : Result := aluImm .cp n s

end Sys2Proof.Machine
end

