-- ==== Sys2Proof/Machine/Control.lean ====
section
/-! DEFINITION. The control transfers (spec 45_control.md). -/

namespace Sys2Proof.Machine

/-- `PC <- target` (R301, R303, R304). -/
def jumpTo (target : Word) (m : Nat) (s : State) : Result := .next (s.withCpu (s.cpu.jump target m))

/-- The target of a relative jump: `PC0 + 2 + e` (R148, R304). -/
def relTarget (n : Byte) (s : State) : Word := s.cpu.pc + 2 + sext16 n

/-- `if cond(cc): PC <- target else: PC <- next`, with the not-taken and the taken cost (R302, R305). -/
def jumpCond (cc : Cond) (target len : Word) (m mt : Nat) (s : State) : Result :=
  if s.cpu.f.cond cc then jumpTo target mt s else .next (s.withCpu (s.cpu.retire len m))

/-- `Push16(next); PC <- target` (R306, R310, R313). -/
def callTo (target len : Word) (m : Nat) (s : State) : Result :=
  afterWrite (push16 s (s.cpu.pc + len)) fun t => t.withCpu (t.cpu.jump target m)

/-- `CALL cc,nn` (R307). -/
def callCond (cc : Cond) (nn : Word) (s : State) : Result :=
  if s.cpu.f.cond cc then callTo nn 3 6 s else .next (s.withCpu (s.cpu.retire 3 3))

/-- `PC <- Pop16()` (R308). -/
def retTo (m : Nat) (s : State) : Result := .next (s.withCpu (s.cpu.popped.jump (popWord s) m))

/-- `RET cc` (R309). -/
def retCond (cc : Cond) (s : State) : Result :=
  if s.cpu.f.cond cc then retTo 5 s else .next (s.withCpu (s.cpu.retire 1 2))

/-- `PC <- Pop16(); IME <- 1` (R312). -/
def retInterrupt (s : State) : Result := .next (s.withCpu (s.cpu.returnTo (popWord s) 4))

/-- `JR e` (R304). -/
def exec_jr_e (n : Byte) (s : State) : Result := jumpTo (relTarget n s) 3 s

/-- `JR NZ,e` (R305). -/
def exec_jr_NZ_e (n : Byte) (s : State) : Result := jumpCond .nz (relTarget n s) 2 2 3 s

/-- `JR Z,e` (R305). -/
def exec_jr_Z_e (n : Byte) (s : State) : Result := jumpCond .z (relTarget n s) 2 2 3 s

/-- `JR NC,e` (R305). -/
def exec_jr_NC_e (n : Byte) (s : State) : Result := jumpCond .nc (relTarget n s) 2 2 3 s

/-- `JR C,e` (R305). -/
def exec_jr_C_e (n : Byte) (s : State) : Result := jumpCond .c (relTarget n s) 2 2 3 s

/-- `RET NZ` (R309). -/
def exec_ret_NZ (s : State) : Result := retCond .nz s

/-- `JP NZ,nn` (R302). -/
def exec_jp_NZ_nn (nn : Word) (s : State) : Result := jumpCond .nz nn 3 3 4 s

/-- `JP nn` (R301). -/
def exec_jp_nn (nn : Word) (s : State) : Result := jumpTo nn 4 s

/-- `CALL NZ,nn` (R307). -/
def exec_call_NZ_nn (nn : Word) (s : State) : Result := callCond .nz nn s

/-- `RST 0x00` (R313). -/
def exec_rst_00 (s : State) : Result := callTo 0x00 1 4 s

/-- `RET Z` (R309). -/
def exec_ret_Z (s : State) : Result := retCond .z s

/-- `RET` (R308). -/
def exec_ret (s : State) : Result := retTo 4 s

/-- `JP Z,nn` (R302). -/
def exec_jp_Z_nn (nn : Word) (s : State) : Result := jumpCond .z nn 3 3 4 s

/-- `CALL Z,nn` (R307). -/
def exec_call_Z_nn (nn : Word) (s : State) : Result := callCond .z nn s

/-- `CALL nn` (R306). -/
def exec_call_nn (nn : Word) (s : State) : Result := callTo nn 3 6 s

/-- `RST 0x08` (R313). -/
def exec_rst_08 (s : State) : Result := callTo 0x08 1 4 s

/-- `RET NC` (R309). -/
def exec_ret_NC (s : State) : Result := retCond .nc s

/-- `JP NC,nn` (R302). -/
def exec_jp_NC_nn (nn : Word) (s : State) : Result := jumpCond .nc nn 3 3 4 s

/-- `CALL NC,nn` (R307). -/
def exec_call_NC_nn (nn : Word) (s : State) : Result := callCond .nc nn s

/-- `RST 0x10` (R313). -/
def exec_rst_10 (s : State) : Result := callTo 0x10 1 4 s

/-- `RET C` (R309). -/
def exec_ret_C (s : State) : Result := retCond .c s

/-- `RETI` (R312). -/
def exec_reti (s : State) : Result := retInterrupt s

/-- `JP C,nn` (R302). -/
def exec_jp_C_nn (nn : Word) (s : State) : Result := jumpCond .c nn 3 3 4 s

/-- `CALL C,nn` (R307). -/
def exec_call_C_nn (nn : Word) (s : State) : Result := callCond .c nn s

/-- `RST 0x18` (R313). -/
def exec_rst_18 (s : State) : Result := callTo 0x18 1 4 s

/-- `RST 0x20` (R313). -/
def exec_rst_20 (s : State) : Result := callTo 0x20 1 4 s

/-- `JP HL` (R303). -/
def exec_jp_HL (s : State) : Result := jumpTo s.cpu.hl 1 s

/-- `RST 0x28` (R313). -/
def exec_rst_28 (s : State) : Result := callTo 0x28 1 4 s

/-- `RST 0x30` (R313). -/
def exec_rst_30 (s : State) : Result := callTo 0x30 1 4 s

/-- `RST 0x38` (R313). -/
def exec_rst_38 (s : State) : Result := callTo 0x38 1 4 s

end Sys2Proof.Machine
end

