-- ==== Sys2Proof/Machine/Load16.lean ====
section
/-! DEFINITION. The 16-bit loads and the stack instructions (spec 41_load16_stack.md). -/

namespace Sys2Proof.Machine

/-- `xx[p] <- nn` (R201). -/
def ldPairImm (p : Pair) (nn : Word) (s : State) : Result := .next (s.withCpu ((s.cpu.setPair p nn).retire 3 3))

/-- `MemWrite(nn, 2, SP)` (R202). -/
def storeSp (nn : Word) (s : State) : Result :=
  afterWrite (memWrite16 s nn s.cpu.sp) fun t => t.withCpu (t.cpu.retire 3 5)

/-- `SP <- HL` (R203). -/
def ldSpHl (s : State) : Result := .next (s.withCpu (({ s.cpu with sp := s.cpu.hl } : Cpu).retire 1 2))

/-- `HL <- SP + sext_16(n)`, both carries from the low byte (R204). -/
def ldHlSp (n : Byte) (s : State) : Result :=
  .next (s.withCpu
    ((({ s.cpu with f := addSpFlags s.cpu.sp n } : Cpu).setHl (s.cpu.sp + sext16 n)).retire 2 3))

/-- `Push16(xx[p])` (R205). -/
def pushPair (p : StackPair) (s : State) : Result :=
  afterWrite (push16 s (s.cpu.stackPair p)) fun t => t.withCpu (t.cpu.retire 1 4)

/-- `xx[p] <- Pop16()` (R206). -/
def popPair (p : StackPair) (s : State) : Result :=
  .next (s.withCpu ((s.cpu.popped.setStackPair p (popWord s)).retire 1 3))

/-- `LD BC,nn` (R201). -/
def exec_ld_BC_nn (nn : Word) (s : State) : Result := ldPairImm .bc nn s

/-- `LD (nn),SP` (R202). -/
def exec_ld_atnn_SP (nn : Word) (s : State) : Result := storeSp nn s

/-- `LD DE,nn` (R201). -/
def exec_ld_DE_nn (nn : Word) (s : State) : Result := ldPairImm .de nn s

/-- `LD HL,nn` (R201). -/
def exec_ld_HL_nn (nn : Word) (s : State) : Result := ldPairImm .hl nn s

/-- `LD SP,nn` (R201). -/
def exec_ld_SP_nn (nn : Word) (s : State) : Result := ldPairImm .sp nn s

/-- `POP BC` (R206). -/
def exec_pop_BC (s : State) : Result := popPair .bc s

/-- `PUSH BC` (R205). -/
def exec_push_BC (s : State) : Result := pushPair .bc s

/-- `POP DE` (R206). -/
def exec_pop_DE (s : State) : Result := popPair .de s

/-- `PUSH DE` (R205). -/
def exec_push_DE (s : State) : Result := pushPair .de s

/-- `POP HL` (R206). -/
def exec_pop_HL (s : State) : Result := popPair .hl s

/-- `PUSH HL` (R205). -/
def exec_push_HL (s : State) : Result := pushPair .hl s

/-- `POP AF` (R206). -/
def exec_pop_AF (s : State) : Result := popPair .af s

/-- `PUSH AF` (R205). -/
def exec_push_AF (s : State) : Result := pushPair .af s

/-- `LD HL,SP+e` (R204). -/
def exec_ld_HL_SPe (n : Byte) (s : State) : Result := ldHlSp n s

/-- `LD SP,HL` (R203). -/
def exec_ld_SP_HL (s : State) : Result := ldSpHl s

end Sys2Proof.Machine
end

