-- ==== Sys2Proof/Machine/Load8.lean ====
section
/-! DEFINITION. The 8-bit loads (spec 40_load8.md). -/

namespace Sys2Proof.Machine

/-- `x[dst] <- x[r]` (R171). -/
def ldRegReg (dst r : Reg) (s : State) : Result :=
  .next (s.withCpu ((s.cpu.setReg dst (s.cpu.reg r)).retire 1 1))

/-- `x[dst] <- n` (R172). -/
def ldRegImm (dst : Reg) (n : Byte) (s : State) : Result := .next (s.withCpu ((s.cpu.setReg dst n).retire 2 2))

/-- `x[dst] <- MemRead(HL, 1)`, the address formed before the write (R173). -/
def ldRegMem (dst : Reg) (s : State) : Result :=
  .next (s.withCpu ((s.cpu.setReg dst (memRead s s.cpu.hl)).retire 1 2))

/-- `MemWrite(a, 1, v)`: a store of one byte by an instruction of length `len` and cost `m` (R170). -/
def storeByte (a : Word) (v : Byte) (len : Word) (m : Nat) (s : State) : Result :=
  afterWrite (memWrite s a v) fun t => t.withCpu (t.cpu.retire len m)

/-- `MemWrite(HL, 1, x[r])` (R174). -/
def ldMemReg (r : Reg) (s : State) : Result := storeByte s.cpu.hl (s.cpu.reg r) 1 2 s

/-- `A <- MemRead(a, 1)` (R176, R177, R180, R182, R184). -/
def loadA (a : Word) (len : Word) (m : Nat) (s : State) : Result :=
  .next (s.withCpu (({ s.cpu with a := memRead s a } : Cpu).retire len m))

/-- `MemWrite(HL, 1, A)`, then HL moves by one (R186, R188). -/
def storeAStep (delta : Word) (s : State) : Result :=
  afterWrite (memWrite s s.cpu.hl s.cpu.a) fun t =>
    t.withCpu ((t.cpu.setHl (t.cpu.hl + delta)).retire 1 2)

/-- `A <- MemRead(HL, 1)`, then HL moves by one (R187, R189). -/
def loadAStep (delta : Word) (s : State) : Result :=
  .next (s.withCpu ((({ s.cpu with a := memRead s s.cpu.hl } : Cpu).setHl (s.cpu.hl + delta)).retire 1 2))

/-- `LD (BC),A` (R178). -/
def exec_ld_atBC_A (s : State) : Result := storeByte s.cpu.bc s.cpu.a 1 2 s

/-- `LD B,n` (R172). -/
def exec_ld_B_n (n : Byte) (s : State) : Result := ldRegImm .b n s

/-- `LD A,(BC)` (R176). -/
def exec_ld_A_atBC (s : State) : Result := loadA s.cpu.bc 1 2 s

/-- `LD C,n` (R172). -/
def exec_ld_C_n (n : Byte) (s : State) : Result := ldRegImm .c n s

/-- `LD (DE),A` (R179). -/
def exec_ld_atDE_A (s : State) : Result := storeByte s.cpu.de s.cpu.a 1 2 s

/-- `LD D,n` (R172). -/
def exec_ld_D_n (n : Byte) (s : State) : Result := ldRegImm .d n s

/-- `LD A,(DE)` (R177). -/
def exec_ld_A_atDE (s : State) : Result := loadA s.cpu.de 1 2 s

/-- `LD E,n` (R172). -/
def exec_ld_E_n (n : Byte) (s : State) : Result := ldRegImm .e n s

/-- `LD (HL+),A` (R186). -/
def exec_ld_atHLi_A (s : State) : Result := storeAStep 1 s

/-- `LD H,n` (R172). -/
def exec_ld_H_n (n : Byte) (s : State) : Result := ldRegImm .h n s

/-- `LD A,(HL+)` (R187). -/
def exec_ld_A_atHLi (s : State) : Result := loadAStep 1 s

/-- `LD L,n` (R172). -/
def exec_ld_L_n (n : Byte) (s : State) : Result := ldRegImm .l n s

/-- `LD (HL-),A` (R188). -/
def exec_ld_atHLd_A (s : State) : Result := storeAStep (-1) s

/-- `LD (HL),n` (R175). -/
def exec_ld_atHL_n (n : Byte) (s : State) : Result := storeByte s.cpu.hl n 2 3 s

/-- `LD A,(HL-)` (R189). -/
def exec_ld_A_atHLd (s : State) : Result := loadAStep (-1) s

/-- `LD A,n` (R172). -/
def exec_ld_A_n (n : Byte) (s : State) : Result := ldRegImm .a n s

/-- `LD B,B` (R171). -/
def exec_ld_B_B (s : State) : Result := ldRegReg .b .b s

/-- `LD B,C` (R171). -/
def exec_ld_B_C (s : State) : Result := ldRegReg .b .c s

/-- `LD B,D` (R171). -/
def exec_ld_B_D (s : State) : Result := ldRegReg .b .d s

/-- `LD B,E` (R171). -/
def exec_ld_B_E (s : State) : Result := ldRegReg .b .e s

/-- `LD B,H` (R171). -/
def exec_ld_B_H (s : State) : Result := ldRegReg .b .h s

/-- `LD B,L` (R171). -/
def exec_ld_B_L (s : State) : Result := ldRegReg .b .l s

/-- `LD B,(HL)` (R173). -/
def exec_ld_B_atHL (s : State) : Result := ldRegMem .b s

/-- `LD B,A` (R171). -/
def exec_ld_B_A (s : State) : Result := ldRegReg .b .a s

/-- `LD C,B` (R171). -/
def exec_ld_C_B (s : State) : Result := ldRegReg .c .b s

/-- `LD C,C` (R171). -/
def exec_ld_C_C (s : State) : Result := ldRegReg .c .c s

/-- `LD C,D` (R171). -/
def exec_ld_C_D (s : State) : Result := ldRegReg .c .d s

/-- `LD C,E` (R171). -/
def exec_ld_C_E (s : State) : Result := ldRegReg .c .e s

/-- `LD C,H` (R171). -/
def exec_ld_C_H (s : State) : Result := ldRegReg .c .h s

/-- `LD C,L` (R171). -/
def exec_ld_C_L (s : State) : Result := ldRegReg .c .l s

/-- `LD C,(HL)` (R173). -/
def exec_ld_C_atHL (s : State) : Result := ldRegMem .c s

/-- `LD C,A` (R171). -/
def exec_ld_C_A (s : State) : Result := ldRegReg .c .a s

/-- `LD D,B` (R171). -/
def exec_ld_D_B (s : State) : Result := ldRegReg .d .b s

/-- `LD D,C` (R171). -/
def exec_ld_D_C (s : State) : Result := ldRegReg .d .c s

/-- `LD D,D` (R171). -/
def exec_ld_D_D (s : State) : Result := ldRegReg .d .d s

/-- `LD D,E` (R171). -/
def exec_ld_D_E (s : State) : Result := ldRegReg .d .e s

/-- `LD D,H` (R171). -/
def exec_ld_D_H (s : State) : Result := ldRegReg .d .h s

/-- `LD D,L` (R171). -/
def exec_ld_D_L (s : State) : Result := ldRegReg .d .l s

/-- `LD D,(HL)` (R173). -/
def exec_ld_D_atHL (s : State) : Result := ldRegMem .d s

/-- `LD D,A` (R171). -/
def exec_ld_D_A (s : State) : Result := ldRegReg .d .a s

/-- `LD E,B` (R171). -/
def exec_ld_E_B (s : State) : Result := ldRegReg .e .b s

/-- `LD E,C` (R171). -/
def exec_ld_E_C (s : State) : Result := ldRegReg .e .c s

/-- `LD E,D` (R171). -/
def exec_ld_E_D (s : State) : Result := ldRegReg .e .d s

/-- `LD E,E` (R171). -/
def exec_ld_E_E (s : State) : Result := ldRegReg .e .e s

/-- `LD E,H` (R171). -/
def exec_ld_E_H (s : State) : Result := ldRegReg .e .h s

/-- `LD E,L` (R171). -/
def exec_ld_E_L (s : State) : Result := ldRegReg .e .l s

/-- `LD E,(HL)` (R173). -/
def exec_ld_E_atHL (s : State) : Result := ldRegMem .e s

/-- `LD E,A` (R171). -/
def exec_ld_E_A (s : State) : Result := ldRegReg .e .a s

/-- `LD H,B` (R171). -/
def exec_ld_H_B (s : State) : Result := ldRegReg .h .b s

/-- `LD H,C` (R171). -/
def exec_ld_H_C (s : State) : Result := ldRegReg .h .c s

/-- `LD H,D` (R171). -/
def exec_ld_H_D (s : State) : Result := ldRegReg .h .d s

/-- `LD H,E` (R171). -/
def exec_ld_H_E (s : State) : Result := ldRegReg .h .e s

/-- `LD H,H` (R171). -/
def exec_ld_H_H (s : State) : Result := ldRegReg .h .h s

/-- `LD H,L` (R171). -/
def exec_ld_H_L (s : State) : Result := ldRegReg .h .l s

/-- `LD H,(HL)` (R173). -/
def exec_ld_H_atHL (s : State) : Result := ldRegMem .h s

/-- `LD H,A` (R171). -/
def exec_ld_H_A (s : State) : Result := ldRegReg .h .a s

/-- `LD L,B` (R171). -/
def exec_ld_L_B (s : State) : Result := ldRegReg .l .b s

/-- `LD L,C` (R171). -/
def exec_ld_L_C (s : State) : Result := ldRegReg .l .c s

/-- `LD L,D` (R171). -/
def exec_ld_L_D (s : State) : Result := ldRegReg .l .d s

/-- `LD L,E` (R171). -/
def exec_ld_L_E (s : State) : Result := ldRegReg .l .e s

/-- `LD L,H` (R171). -/
def exec_ld_L_H (s : State) : Result := ldRegReg .l .h s

/-- `LD L,L` (R171). -/
def exec_ld_L_L (s : State) : Result := ldRegReg .l .l s

/-- `LD L,(HL)` (R173). -/
def exec_ld_L_atHL (s : State) : Result := ldRegMem .l s

/-- `LD L,A` (R171). -/
def exec_ld_L_A (s : State) : Result := ldRegReg .l .a s

/-- `LD (HL),B` (R174). -/
def exec_ld_atHL_B (s : State) : Result := ldMemReg .b s

/-- `LD (HL),C` (R174). -/
def exec_ld_atHL_C (s : State) : Result := ldMemReg .c s

/-- `LD (HL),D` (R174). -/
def exec_ld_atHL_D (s : State) : Result := ldMemReg .d s

/-- `LD (HL),E` (R174). -/
def exec_ld_atHL_E (s : State) : Result := ldMemReg .e s

/-- `LD (HL),H` (R174). -/
def exec_ld_atHL_H (s : State) : Result := ldMemReg .h s

/-- `LD (HL),L` (R174). -/
def exec_ld_atHL_L (s : State) : Result := ldMemReg .l s

/-- `LD (HL),A` (R174). -/
def exec_ld_atHL_A (s : State) : Result := ldMemReg .a s

/-- `LD A,B` (R171). -/
def exec_ld_A_B (s : State) : Result := ldRegReg .a .b s

/-- `LD A,C` (R171). -/
def exec_ld_A_C (s : State) : Result := ldRegReg .a .c s

/-- `LD A,D` (R171). -/
def exec_ld_A_D (s : State) : Result := ldRegReg .a .d s

/-- `LD A,E` (R171). -/
def exec_ld_A_E (s : State) : Result := ldRegReg .a .e s

/-- `LD A,H` (R171). -/
def exec_ld_A_H (s : State) : Result := ldRegReg .a .h s

/-- `LD A,L` (R171). -/
def exec_ld_A_L (s : State) : Result := ldRegReg .a .l s

/-- `LD A,(HL)` (R173). -/
def exec_ld_A_atHL (s : State) : Result := ldRegMem .a s

/-- `LD A,A` (R171). -/
def exec_ld_A_A (s : State) : Result := ldRegReg .a .a s

/-- `LDH (n),A` (R185). -/
def exec_ldh_atn_A (n : Byte) (s : State) : Result := storeByte (highPage n) s.cpu.a 2 3 s

/-- `LDH (C),A` (R183). -/
def exec_ldh_atC_A (s : State) : Result := storeByte (highPage s.cpu.c) s.cpu.a 1 2 s

/-- `LD (nn),A` (R181). -/
def exec_ld_atnn_A (nn : Word) (s : State) : Result := storeByte nn s.cpu.a 3 4 s

/-- `LDH A,(n)` (R184). -/
def exec_ldh_A_atn (n : Byte) (s : State) : Result := loadA (highPage n) 2 3 s

/-- `LDH A,(C)` (R182). -/
def exec_ldh_A_atC (s : State) : Result := loadA (highPage s.cpu.c) 1 2 s

/-- `LD A,(nn)` (R180). -/
def exec_ld_A_atnn (nn : Word) (s : State) : Result := loadA nn 3 4 s

end Sys2Proof.Machine
end

