-- ==== Sys2Proof/WellFormed.lean ====
section
/-! DEFINITION. Which instructions are well formed. Registers, pairs, conditions, bit numbers and restart targets
are part of a constructor and immediates have the width of their field, so the one thing left to check is that the
instruction has its whole encoding. -/

namespace Sys2Proof

/-- `PREFIX CB` is not an instruction on its own: the prefix and a second byte form one instruction of length 2,
which is an extended row (R326). -/
def Instr.complete (i : Instr) : Bool := decide (i ≠ .prefix_CB)

/-- The instruction is one the decoder can read from its own encoding. -/
def Instr.wellFormed (i : Instr) : Bool := i.complete

end Sys2Proof
end

