-- ==== Sys2Proof/Decode.lean ====
section
/-! DEFINITION. The decoder (spec 30_encoding.md R140 to R154): the length table, the base and the extended
opcode maps row by row as R152 and R154 lay them out, the decoder over bytes, total and rejecting by name; the
encoder, written from the same tables; and the instruction forms by their opcode patterns (R153, R154). -/

namespace Sys2Proof

/-- Why a list of bytes is not an instruction. Every byte value decodes (R140), so only bytes that are missing can
be the reason. -/
inductive DecodeError where
  /-- There is no byte. -/
  | noBytes
  /-- The list ends before the instruction whose first byte this is. -/
  | truncated (op : Byte)
  deriving DecidableEq, Repr

/-- The instruction lengths, row = high nibble, column = low nibble (R141). -/
def lengthRows : List (List Nat) :=
  [[1, 3, 1, 1, 1, 1, 2, 1, 3, 1, 1, 1, 1, 1, 2, 1],
   [2, 3, 1, 1, 1, 1, 2, 1, 2, 1, 1, 1, 1, 1, 2, 1],
   [2, 3, 1, 1, 1, 1, 2, 1, 2, 1, 1, 1, 1, 1, 2, 1],
   [2, 3, 1, 1, 1, 1, 2, 1, 2, 1, 1, 1, 1, 1, 2, 1],
   [1, 1, 1, 1, 1, 1, 1, 1, 1, 1, 1, 1, 1, 1, 1, 1],
   [1, 1, 1, 1, 1, 1, 1, 1, 1, 1, 1, 1, 1, 1, 1, 1],
   [1, 1, 1, 1, 1, 1, 1, 1, 1, 1, 1, 1, 1, 1, 1, 1],
   [1, 1, 1, 1, 1, 1, 1, 1, 1, 1, 1, 1, 1, 1, 1, 1],
   [1, 1, 1, 1, 1, 1, 1, 1, 1, 1, 1, 1, 1, 1, 1, 1],
   [1, 1, 1, 1, 1, 1, 1, 1, 1, 1, 1, 1, 1, 1, 1, 1],
   [1, 1, 1, 1, 1, 1, 1, 1, 1, 1, 1, 1, 1, 1, 1, 1],
   [1, 1, 1, 1, 1, 1, 1, 1, 1, 1, 1, 1, 1, 1, 1, 1],
   [1, 1, 3, 3, 3, 1, 2, 1, 1, 1, 3, 2, 3, 3, 2, 1],
   [1, 1, 3, 1, 3, 1, 2, 1, 1, 1, 3, 1, 3, 1, 2, 1],
   [2, 1, 1, 1, 1, 1, 2, 1, 2, 1, 3, 1, 1, 1, 2, 1],
   [2, 1, 1, 1, 1, 1, 2, 1, 2, 1, 3, 1, 1, 1, 2, 1]]

/-- `len(op)`: the instruction's length in bytes by its first byte (R141). -/
def opLength (op : Byte) : Nat := (lengthRows.getD (op.toNat / 16) []).getD (op.toNat % 16) 1

/-- The base opcode map, row 0x0x (R152). -/
def baseRow0 (n : Byte) (nn : Word) : List Instr :=
  [.nop, .ld_BC_nn nn, .ld_atBC_A, .inc_BC, .inc_B, .dec_B, .ld_B_n n, .rlca,
   .ld_atnn_SP nn, .add_HL_BC, .ld_A_atBC, .dec_BC, .inc_C, .dec_C, .ld_C_n n, .rrca]

/-- The base opcode map, row 0x1x (R152). -/
def baseRow1 (n : Byte) (nn : Word) : List Instr :=
  [.stop, .ld_DE_nn nn, .ld_atDE_A, .inc_DE, .inc_D, .dec_D, .ld_D_n n, .rla,
   .jr_e n, .add_HL_DE, .ld_A_atDE, .dec_DE, .inc_E, .dec_E, .ld_E_n n, .rra]

/-- The base opcode map, row 0x2x (R152). -/
def baseRow2 (n : Byte) (nn : Word) : List Instr :=
  [.jr_NZ_e n, .ld_HL_nn nn, .ld_atHLi_A, .inc_HL, .inc_H, .dec_H, .ld_H_n n, .daa,
   .jr_Z_e n, .add_HL_HL, .ld_A_atHLi, .dec_HL, .inc_L, .dec_L, .ld_L_n n, .cpl]

/-- The base opcode map, row 0x3x (R152). -/
def baseRow3 (n : Byte) (nn : Word) : List Instr :=
  [.jr_NC_e n, .ld_SP_nn nn, .ld_atHLd_A, .inc_SP, .inc_atHL, .dec_atHL, .ld_atHL_n n, .scf,
   .jr_C_e n, .add_HL_SP, .ld_A_atHLd, .dec_SP, .inc_A, .dec_A, .ld_A_n n, .ccf]

/-- The base opcode map, row 0x4x (R152). -/
def baseRow4 (_n : Byte) (_nn : Word) : List Instr :=
  [.ld_B_B, .ld_B_C, .ld_B_D, .ld_B_E, .ld_B_H, .ld_B_L, .ld_B_atHL, .ld_B_A,
   .ld_C_B, .ld_C_C, .ld_C_D, .ld_C_E, .ld_C_H, .ld_C_L, .ld_C_atHL, .ld_C_A]

/-- The base opcode map, row 0x5x (R152). -/
def baseRow5 (_n : Byte) (_nn : Word) : List Instr :=
  [.ld_D_B, .ld_D_C, .ld_D_D, .ld_D_E, .ld_D_H, .ld_D_L, .ld_D_atHL, .ld_D_A,
   .ld_E_B, .ld_E_C, .ld_E_D, .ld_E_E, .ld_E_H, .ld_E_L, .ld_E_atHL, .ld_E_A]

/-- The base opcode map, row 0x6x (R152). -/
def baseRow6 (_n : Byte) (_nn : Word) : List Instr :=
  [.ld_H_B, .ld_H_C, .ld_H_D, .ld_H_E, .ld_H_H, .ld_H_L, .ld_H_atHL, .ld_H_A,
   .ld_L_B, .ld_L_C, .ld_L_D, .ld_L_E, .ld_L_H, .ld_L_L, .ld_L_atHL, .ld_L_A]

/-- The base opcode map, row 0x7x (R152). -/
def baseRow7 (_n : Byte) (_nn : Word) : List Instr :=
  [.ld_atHL_B, .ld_atHL_C, .ld_atHL_D, .ld_atHL_E, .ld_atHL_H, .ld_atHL_L, .halt, .ld_atHL_A,
   .ld_A_B, .ld_A_C, .ld_A_D, .ld_A_E, .ld_A_H, .ld_A_L, .ld_A_atHL, .ld_A_A]

/-- The base opcode map, row 0x8x (R152). -/
def baseRow8 (_n : Byte) (_nn : Word) : List Instr :=
  [.add_A_B, .add_A_C, .add_A_D, .add_A_E, .add_A_H, .add_A_L, .add_A_atHL, .add_A_A,
   .adc_A_B, .adc_A_C, .adc_A_D, .adc_A_E, .adc_A_H, .adc_A_L, .adc_A_atHL, .adc_A_A]

/-- The base opcode map, row 0x9x (R152). -/
def baseRow9 (_n : Byte) (_nn : Word) : List Instr :=
  [.sub_B, .sub_C, .sub_D, .sub_E, .sub_H, .sub_L, .sub_atHL, .sub_A,
   .sbc_A_B, .sbc_A_C, .sbc_A_D, .sbc_A_E, .sbc_A_H, .sbc_A_L, .sbc_A_atHL, .sbc_A_A]

/-- The base opcode map, row 0xAx (R152). -/
def baseRowA (_n : Byte) (_nn : Word) : List Instr :=
  [.and_B, .and_C, .and_D, .and_E, .and_H, .and_L, .and_atHL, .and_A,
   .xor_B, .xor_C, .xor_D, .xor_E, .xor_H, .xor_L, .xor_atHL, .xor_A]

/-- The base opcode map, row 0xBx (R152). -/
def baseRowB (_n : Byte) (_nn : Word) : List Instr :=
  [.or_B, .or_C, .or_D, .or_E, .or_H, .or_L, .or_atHL, .or_A,
   .cp_B, .cp_C, .cp_D, .cp_E, .cp_H, .cp_L, .cp_atHL, .cp_A]

/-- The base opcode map, row 0xCx (R152). -/
def baseRowC (n : Byte) (nn : Word) : List Instr :=
  [.ret_NZ, .pop_BC, .jp_NZ_nn nn, .jp_nn nn, .call_NZ_nn nn, .push_BC, .add_A_n n, .rst_00,
   .ret_Z, .ret, .jp_Z_nn nn, .prefix_CB, .call_Z_nn nn, .call_nn nn, .adc_A_n n, .rst_08]

/-- The base opcode map, row 0xDx (R152). -/
def baseRowD (n : Byte) (nn : Word) : List Instr :=
  [.ret_NC, .pop_DE, .jp_NC_nn nn, .reserved_D3, .call_NC_nn nn, .push_DE, .sub_n n, .rst_10,
   .ret_C, .reti, .jp_C_nn nn, .reserved_DB, .call_C_nn nn, .reserved_DD, .sbc_A_n n, .rst_18]

/-- The base opcode map, row 0xEx (R152). -/
def baseRowE (n : Byte) (nn : Word) : List Instr :=
  [.ldh_atn_A n, .pop_HL, .ldh_atC_A, .reserved_E3, .reserved_E4, .push_HL, .and_n n, .rst_20,
   .add_SP_e n, .jp_HL, .ld_atnn_A nn, .reserved_EB, .reserved_EC, .reserved_ED, .xor_n n, .rst_28]

/-- The base opcode map, row 0xFx (R152). -/
def baseRowF (n : Byte) (nn : Word) : List Instr :=
  [.ldh_A_atn n, .pop_AF, .ldh_A_atC, .di, .reserved_F4, .push_AF, .or_n n, .rst_30,
   .ld_HL_SPe n, .ld_SP_HL, .ld_A_atnn nn, .ei, .reserved_FC, .reserved_FD, .cp_n n, .rst_38]

/-- The base opcode map with the operand bytes filled in (R152). -/
def baseRows (n : Byte) (nn : Word) : List (List Instr) :=
  [baseRow0 n nn, baseRow1 n nn, baseRow2 n nn, baseRow3 n nn,
   baseRow4 n nn, baseRow5 n nn, baseRow6 n nn, baseRow7 n nn,
   baseRow8 n nn, baseRow9 n nn, baseRowA n nn, baseRowB n nn,
   baseRowC n nn, baseRowD n nn, baseRowE n nn, baseRowF n nn]

/-- `BASE[op]` with immediate byte `n` or immediate word `nn` (R140, R152). The entry of 0xCB is the prefix, which
`decodeBytes` sends to the extended map. -/
def decodeBase (op n : Byte) (nn : Word) : Instr :=
  ((baseRows n nn).getD (op.toNat / 16) []).getD (op.toNat % 16) .nop

/-- The extended opcode map, row 0x0x (R154). -/
def extRow0 : List Instr :=
  [.rlc_B, .rlc_C, .rlc_D, .rlc_E, .rlc_H, .rlc_L, .rlc_atHL, .rlc_A,
   .rrc_B, .rrc_C, .rrc_D, .rrc_E, .rrc_H, .rrc_L, .rrc_atHL, .rrc_A]

/-- The extended opcode map, row 0x1x (R154). -/
def extRow1 : List Instr :=
  [.rl_B, .rl_C, .rl_D, .rl_E, .rl_H, .rl_L, .rl_atHL, .rl_A,
   .rr_B, .rr_C, .rr_D, .rr_E, .rr_H, .rr_L, .rr_atHL, .rr_A]

/-- The extended opcode map, row 0x2x (R154). -/
def extRow2 : List Instr :=
  [.sla_B, .sla_C, .sla_D, .sla_E, .sla_H, .sla_L, .sla_atHL, .sla_A,
   .sra_B, .sra_C, .sra_D, .sra_E, .sra_H, .sra_L, .sra_atHL, .sra_A]

/-- The extended opcode map, row 0x3x (R154). -/
def extRow3 : List Instr :=
  [.swap_B, .swap_C, .swap_D, .swap_E, .swap_H, .swap_L, .swap_atHL, .swap_A,
   .srl_B, .srl_C, .srl_D, .srl_E, .srl_H, .srl_L, .srl_atHL, .srl_A]

/-- The extended opcode map, row 0x4x (R154). -/
def extRow4 : List Instr :=
  [.bit_0_B, .bit_0_C, .bit_0_D, .bit_0_E, .bit_0_H, .bit_0_L, .bit_0_atHL, .bit_0_A,
   .bit_1_B, .bit_1_C, .bit_1_D, .bit_1_E, .bit_1_H, .bit_1_L, .bit_1_atHL, .bit_1_A]

/-- The extended opcode map, row 0x5x (R154). -/
def extRow5 : List Instr :=
  [.bit_2_B, .bit_2_C, .bit_2_D, .bit_2_E, .bit_2_H, .bit_2_L, .bit_2_atHL, .bit_2_A,
   .bit_3_B, .bit_3_C, .bit_3_D, .bit_3_E, .bit_3_H, .bit_3_L, .bit_3_atHL, .bit_3_A]

/-- The extended opcode map, row 0x6x (R154). -/
def extRow6 : List Instr :=
  [.bit_4_B, .bit_4_C, .bit_4_D, .bit_4_E, .bit_4_H, .bit_4_L, .bit_4_atHL, .bit_4_A,
   .bit_5_B, .bit_5_C, .bit_5_D, .bit_5_E, .bit_5_H, .bit_5_L, .bit_5_atHL, .bit_5_A]

/-- The extended opcode map, row 0x7x (R154). -/
def extRow7 : List Instr :=
  [.bit_6_B, .bit_6_C, .bit_6_D, .bit_6_E, .bit_6_H, .bit_6_L, .bit_6_atHL, .bit_6_A,
   .bit_7_B, .bit_7_C, .bit_7_D, .bit_7_E, .bit_7_H, .bit_7_L, .bit_7_atHL, .bit_7_A]

/-- The extended opcode map, row 0x8x (R154). -/
def extRow8 : List Instr :=
  [.res_0_B, .res_0_C, .res_0_D, .res_0_E, .res_0_H, .res_0_L, .res_0_atHL, .res_0_A,
   .res_1_B, .res_1_C, .res_1_D, .res_1_E, .res_1_H, .res_1_L, .res_1_atHL, .res_1_A]

/-- The extended opcode map, row 0x9x (R154). -/
def extRow9 : List Instr :=
  [.res_2_B, .res_2_C, .res_2_D, .res_2_E, .res_2_H, .res_2_L, .res_2_atHL, .res_2_A,
   .res_3_B, .res_3_C, .res_3_D, .res_3_E, .res_3_H, .res_3_L, .res_3_atHL, .res_3_A]

/-- The extended opcode map, row 0xAx (R154). -/
def extRowA : List Instr :=
  [.res_4_B, .res_4_C, .res_4_D, .res_4_E, .res_4_H, .res_4_L, .res_4_atHL, .res_4_A,
   .res_5_B, .res_5_C, .res_5_D, .res_5_E, .res_5_H, .res_5_L, .res_5_atHL, .res_5_A]

/-- The extended opcode map, row 0xBx (R154). -/
def extRowB : List Instr :=
  [.res_6_B, .res_6_C, .res_6_D, .res_6_E, .res_6_H, .res_6_L, .res_6_atHL, .res_6_A,
   .res_7_B, .res_7_C, .res_7_D, .res_7_E, .res_7_H, .res_7_L, .res_7_atHL, .res_7_A]

/-- The extended opcode map, row 0xCx (R154). -/
def extRowC : List Instr :=
  [.set_0_B, .set_0_C, .set_0_D, .set_0_E, .set_0_H, .set_0_L, .set_0_atHL, .set_0_A,
   .set_1_B, .set_1_C, .set_1_D, .set_1_E, .set_1_H, .set_1_L, .set_1_atHL, .set_1_A]

/-- The extended opcode map, row 0xDx (R154). -/
def extRowD : List Instr :=
  [.set_2_B, .set_2_C, .set_2_D, .set_2_E, .set_2_H, .set_2_L, .set_2_atHL, .set_2_A,
   .set_3_B, .set_3_C, .set_3_D, .set_3_E, .set_3_H, .set_3_L, .set_3_atHL, .set_3_A]

/-- The extended opcode map, row 0xEx (R154). -/
def extRowE : List Instr :=
  [.set_4_B, .set_4_C, .set_4_D, .set_4_E, .set_4_H, .set_4_L, .set_4_atHL, .set_4_A,
   .set_5_B, .set_5_C, .set_5_D, .set_5_E, .set_5_H, .set_5_L, .set_5_atHL, .set_5_A]

/-- The extended opcode map, row 0xFx (R154). -/
def extRowF : List Instr :=
  [.set_6_B, .set_6_C, .set_6_D, .set_6_E, .set_6_H, .set_6_L, .set_6_atHL, .set_6_A,
   .set_7_B, .set_7_C, .set_7_D, .set_7_E, .set_7_H, .set_7_L, .set_7_atHL, .set_7_A]

/-- The extended opcode map (R154). -/
def extRows : List (List Instr) :=
  [extRow0, extRow1, extRow2, extRow3, extRow4, extRow5, extRow6, extRow7,
   extRow8, extRow9, extRowA, extRowB, extRowC, extRowD, extRowE, extRowF]

/-- `EXT[op2]` (R140, R154). -/
def decodeExt (op2 : Byte) : Instr :=
  (extRows.getD (op2.toNat / 16) []).getD (op2.toNat % 16) .nop

/-- The instruction whose bytes begin `b0 b1 b2`; a shorter instruction does not look at the later ones
(R140). Total: every value of the bytes has an entry. -/
def decodeBytes (b0 b1 b2 : Byte) : Instr :=
  if b0 = 0xCB then decodeExt b1 else decodeBase b0 b1 (Machine.joinBytes b2 b1)

/-- The instruction at the head of a list of bytes, with the rest of the list; rejected by name when bytes are
missing. -/
def decode : List Byte → Except DecodeError (Instr × List Byte)
  | [] => .error .noBytes
  | op :: rest =>
    if rest.length + 1 < opLength op then .error (.truncated op)
    else .ok (decodeBytes op (rest.getD 0 0) (rest.getD 1 0), rest.drop (opLength op - 1))

/-- A 16-bit immediate as the two bytes after the opcode, the low byte first (R142, R147). -/
def wordBytes (nn : Word) : List Byte := [Machine.loByte nn, Machine.hiByte nn]

/-- The bytes of an instruction in ascending address order (R142, R152, R154). STOP's operand byte is
conventionally 0x00 (R323). The prefix alone is its one byte. -/
def encode (i : Instr) : List Byte :=
  match i with
  | .nop => [0x00]
  | .ld_BC_nn nn => 0x01 :: wordBytes nn
  | .ld_atBC_A => [0x02]
  | .inc_BC => [0x03]
  | .inc_B => [0x04]
  | .dec_B => [0x05]
  | .ld_B_n n => [0x06, n]
  | .rlca => [0x07]
  | .ld_atnn_SP nn => 0x08 :: wordBytes nn
  | .add_HL_BC => [0x09]
  | .ld_A_atBC => [0x0A]
  | .dec_BC => [0x0B]
  | .inc_C => [0x0C]
  | .dec_C => [0x0D]
  | .ld_C_n n => [0x0E, n]
  | .rrca => [0x0F]
  | .stop => [0x10, 0x00]
  | .ld_DE_nn nn => 0x11 :: wordBytes nn
  | .ld_atDE_A => [0x12]
  | .inc_DE => [0x13]
  | .inc_D => [0x14]
  | .dec_D => [0x15]
  | .ld_D_n n => [0x16, n]
  | .rla => [0x17]
  | .jr_e n => [0x18, n]
  | .add_HL_DE => [0x19]
  | .ld_A_atDE => [0x1A]
  | .dec_DE => [0x1B]
  | .inc_E => [0x1C]
  | .dec_E => [0x1D]
  | .ld_E_n n => [0x1E, n]
  | .rra => [0x1F]
  | .jr_NZ_e n => [0x20, n]
  | .ld_HL_nn nn => 0x21 :: wordBytes nn
  | .ld_atHLi_A => [0x22]
  | .inc_HL => [0x23]
  | .inc_H => [0x24]
  | .dec_H => [0x25]
  | .ld_H_n n => [0x26, n]
  | .daa => [0x27]
  | .jr_Z_e n => [0x28, n]
  | .add_HL_HL => [0x29]
  | .ld_A_atHLi => [0x2A]
  | .dec_HL => [0x2B]
  | .inc_L => [0x2C]
  | .dec_L => [0x2D]
  | .ld_L_n n => [0x2E, n]
  | .cpl => [0x2F]
  | .jr_NC_e n => [0x30, n]
  | .ld_SP_nn nn => 0x31 :: wordBytes nn
  | .ld_atHLd_A => [0x32]
  | .inc_SP => [0x33]
  | .inc_atHL => [0x34]
  | .dec_atHL => [0x35]
  | .ld_atHL_n n => [0x36, n]
  | .scf => [0x37]
  | .jr_C_e n => [0x38, n]
  | .add_HL_SP => [0x39]
  | .ld_A_atHLd => [0x3A]
  | .dec_SP => [0x3B]
  | .inc_A => [0x3C]
  | .dec_A => [0x3D]
  | .ld_A_n n => [0x3E, n]
  | .ccf => [0x3F]
  | .ld_B_B => [0x40]
  | .ld_B_C => [0x41]
  | .ld_B_D => [0x42]
  | .ld_B_E => [0x43]
  | .ld_B_H => [0x44]
  | .ld_B_L => [0x45]
  | .ld_B_atHL => [0x46]
  | .ld_B_A => [0x47]
  | .ld_C_B => [0x48]
  | .ld_C_C => [0x49]
  | .ld_C_D => [0x4A]
  | .ld_C_E => [0x4B]
  | .ld_C_H => [0x4C]
  | .ld_C_L => [0x4D]
  | .ld_C_atHL => [0x4E]
  | .ld_C_A => [0x4F]
  | .ld_D_B => [0x50]
  | .ld_D_C => [0x51]
  | .ld_D_D => [0x52]
  | .ld_D_E => [0x53]
  | .ld_D_H => [0x54]
  | .ld_D_L => [0x55]
  | .ld_D_atHL => [0x56]
  | .ld_D_A => [0x57]
  | .ld_E_B => [0x58]
  | .ld_E_C => [0x59]
  | .ld_E_D => [0x5A]
  | .ld_E_E => [0x5B]
  | .ld_E_H => [0x5C]
  | .ld_E_L => [0x5D]
  | .ld_E_atHL => [0x5E]
  | .ld_E_A => [0x5F]
  | .ld_H_B => [0x60]
  | .ld_H_C => [0x61]
  | .ld_H_D => [0x62]
  | .ld_H_E => [0x63]
  | .ld_H_H => [0x64]
  | .ld_H_L => [0x65]
  | .ld_H_atHL => [0x66]
  | .ld_H_A => [0x67]
  | .ld_L_B => [0x68]
  | .ld_L_C => [0x69]
  | .ld_L_D => [0x6A]
  | .ld_L_E => [0x6B]
  | .ld_L_H => [0x6C]
  | .ld_L_L => [0x6D]
  | .ld_L_atHL => [0x6E]
  | .ld_L_A => [0x6F]
  | .ld_atHL_B => [0x70]
  | .ld_atHL_C => [0x71]
  | .ld_atHL_D => [0x72]
  | .ld_atHL_E => [0x73]
  | .ld_atHL_H => [0x74]
  | .ld_atHL_L => [0x75]
  | .halt => [0x76]
  | .ld_atHL_A => [0x77]
  | .ld_A_B => [0x78]
  | .ld_A_C => [0x79]
  | .ld_A_D => [0x7A]
  | .ld_A_E => [0x7B]
  | .ld_A_H => [0x7C]
  | .ld_A_L => [0x7D]
  | .ld_A_atHL => [0x7E]
  | .ld_A_A => [0x7F]
  | .add_A_B => [0x80]
  | .add_A_C => [0x81]
  | .add_A_D => [0x82]
  | .add_A_E => [0x83]
  | .add_A_H => [0x84]
  | .add_A_L => [0x85]
  | .add_A_atHL => [0x86]
  | .add_A_A => [0x87]
  | .adc_A_B => [0x88]
  | .adc_A_C => [0x89]
  | .adc_A_D => [0x8A]
  | .adc_A_E => [0x8B]
  | .adc_A_H => [0x8C]
  | .adc_A_L => [0x8D]
  | .adc_A_atHL => [0x8E]
  | .adc_A_A => [0x8F]
  | .sub_B => [0x90]
  | .sub_C => [0x91]
  | .sub_D => [0x92]
  | .sub_E => [0x93]
  | .sub_H => [0x94]
  | .sub_L => [0x95]
  | .sub_atHL => [0x96]
  | .sub_A => [0x97]
  | .sbc_A_B => [0x98]
  | .sbc_A_C => [0x99]
  | .sbc_A_D => [0x9A]
  | .sbc_A_E => [0x9B]
  | .sbc_A_H => [0x9C]
  | .sbc_A_L => [0x9D]
  | .sbc_A_atHL => [0x9E]
  | .sbc_A_A => [0x9F]
  | .and_B => [0xA0]
  | .and_C => [0xA1]
  | .and_D => [0xA2]
  | .and_E => [0xA3]
  | .and_H => [0xA4]
  | .and_L => [0xA5]
  | .and_atHL => [0xA6]
  | .and_A => [0xA7]
  | .xor_B => [0xA8]
  | .xor_C => [0xA9]
  | .xor_D => [0xAA]
  | .xor_E => [0xAB]
  | .xor_H => [0xAC]
  | .xor_L => [0xAD]
  | .xor_atHL => [0xAE]
  | .xor_A => [0xAF]
  | .or_B => [0xB0]
  | .or_C => [0xB1]
  | .or_D => [0xB2]
  | .or_E => [0xB3]
  | .or_H => [0xB4]
  | .or_L => [0xB5]
  | .or_atHL => [0xB6]
  | .or_A => [0xB7]
  | .cp_B => [0xB8]
  | .cp_C => [0xB9]
  | .cp_D => [0xBA]
  | .cp_E => [0xBB]
  | .cp_H => [0xBC]
  | .cp_L => [0xBD]
  | .cp_atHL => [0xBE]
  | .cp_A => [0xBF]
  | .ret_NZ => [0xC0]
  | .pop_BC => [0xC1]
  | .jp_NZ_nn nn => 0xC2 :: wordBytes nn
  | .jp_nn nn => 0xC3 :: wordBytes nn
  | .call_NZ_nn nn => 0xC4 :: wordBytes nn
  | .push_BC => [0xC5]
  | .add_A_n n => [0xC6, n]
  | .rst_00 => [0xC7]
  | .ret_Z => [0xC8]
  | .ret => [0xC9]
  | .jp_Z_nn nn => 0xCA :: wordBytes nn
  | .prefix_CB => [0xCB]
  | .call_Z_nn nn => 0xCC :: wordBytes nn
  | .call_nn nn => 0xCD :: wordBytes nn
  | .adc_A_n n => [0xCE, n]
  | .rst_08 => [0xCF]
  | .ret_NC => [0xD0]
  | .pop_DE => [0xD1]
  | .jp_NC_nn nn => 0xD2 :: wordBytes nn
  | .reserved_D3 => [0xD3]
  | .call_NC_nn nn => 0xD4 :: wordBytes nn
  | .push_DE => [0xD5]
  | .sub_n n => [0xD6, n]
  | .rst_10 => [0xD7]
  | .ret_C => [0xD8]
  | .reti => [0xD9]
  | .jp_C_nn nn => 0xDA :: wordBytes nn
  | .reserved_DB => [0xDB]
  | .call_C_nn nn => 0xDC :: wordBytes nn
  | .reserved_DD => [0xDD]
  | .sbc_A_n n => [0xDE, n]
  | .rst_18 => [0xDF]
  | .ldh_atn_A n => [0xE0, n]
  | .pop_HL => [0xE1]
  | .ldh_atC_A => [0xE2]
  | .reserved_E3 => [0xE3]
  | .reserved_E4 => [0xE4]
  | .push_HL => [0xE5]
  | .and_n n => [0xE6, n]
  | .rst_20 => [0xE7]
  | .add_SP_e n => [0xE8, n]
  | .jp_HL => [0xE9]
  | .ld_atnn_A nn => 0xEA :: wordBytes nn
  | .reserved_EB => [0xEB]
  | .reserved_EC => [0xEC]
  | .reserved_ED => [0xED]
  | .xor_n n => [0xEE, n]
  | .rst_28 => [0xEF]
  | .ldh_A_atn n => [0xF0, n]
  | .pop_AF => [0xF1]
  | .ldh_A_atC => [0xF2]
  | .di => [0xF3]
  | .reserved_F4 => [0xF4]
  | .push_AF => [0xF5]
  | .or_n n => [0xF6, n]
  | .rst_30 => [0xF7]
  | .ld_HL_SPe n => [0xF8, n]
  | .ld_SP_HL => [0xF9]
  | .ld_A_atnn nn => 0xFA :: wordBytes nn
  | .ei => [0xFB]
  | .reserved_FC => [0xFC]
  | .reserved_FD => [0xFD]
  | .cp_n n => [0xFE, n]
  | .rst_38 => [0xFF]
  | .rlc_B => [0xCB, 0x00]
  | .rlc_C => [0xCB, 0x01]
  | .rlc_D => [0xCB, 0x02]
  | .rlc_E => [0xCB, 0x03]
  | .rlc_H => [0xCB, 0x04]
  | .rlc_L => [0xCB, 0x05]
  | .rlc_atHL => [0xCB, 0x06]
  | .rlc_A => [0xCB, 0x07]
  | .rrc_B => [0xCB, 0x08]
  | .rrc_C => [0xCB, 0x09]
  | .rrc_D => [0xCB, 0x0A]
  | .rrc_E => [0xCB, 0x0B]
  | .rrc_H => [0xCB, 0x0C]
  | .rrc_L => [0xCB, 0x0D]
  | .rrc_atHL => [0xCB, 0x0E]
  | .rrc_A => [0xCB, 0x0F]
  | .rl_B => [0xCB, 0x10]
  | .rl_C => [0xCB, 0x11]
  | .rl_D => [0xCB, 0x12]
  | .rl_E => [0xCB, 0x13]
  | .rl_H => [0xCB, 0x14]
  | .rl_L => [0xCB, 0x15]
  | .rl_atHL => [0xCB, 0x16]
  | .rl_A => [0xCB, 0x17]
  | .rr_B => [0xCB, 0x18]
  | .rr_C => [0xCB, 0x19]
  | .rr_D => [0xCB, 0x1A]
  | .rr_E => [0xCB, 0x1B]
  | .rr_H => [0xCB, 0x1C]
  | .rr_L => [0xCB, 0x1D]
  | .rr_atHL => [0xCB, 0x1E]
  | .rr_A => [0xCB, 0x1F]
  | .sla_B => [0xCB, 0x20]
  | .sla_C => [0xCB, 0x21]
  | .sla_D => [0xCB, 0x22]
  | .sla_E => [0xCB, 0x23]
  | .sla_H => [0xCB, 0x24]
  | .sla_L => [0xCB, 0x25]
  | .sla_atHL => [0xCB, 0x26]
  | .sla_A => [0xCB, 0x27]
  | .sra_B => [0xCB, 0x28]
  | .sra_C => [0xCB, 0x29]
  | .sra_D => [0xCB, 0x2A]
  | .sra_E => [0xCB, 0x2B]
  | .sra_H => [0xCB, 0x2C]
  | .sra_L => [0xCB, 0x2D]
  | .sra_atHL => [0xCB, 0x2E]
  | .sra_A => [0xCB, 0x2F]
  | .swap_B => [0xCB, 0x30]
  | .swap_C => [0xCB, 0x31]
  | .swap_D => [0xCB, 0x32]
  | .swap_E => [0xCB, 0x33]
  | .swap_H => [0xCB, 0x34]
  | .swap_L => [0xCB, 0x35]
  | .swap_atHL => [0xCB, 0x36]
  | .swap_A => [0xCB, 0x37]
  | .srl_B => [0xCB, 0x38]
  | .srl_C => [0xCB, 0x39]
  | .srl_D => [0xCB, 0x3A]
  | .srl_E => [0xCB, 0x3B]
  | .srl_H => [0xCB, 0x3C]
  | .srl_L => [0xCB, 0x3D]
  | .srl_atHL => [0xCB, 0x3E]
  | .srl_A => [0xCB, 0x3F]
  | .bit_0_B => [0xCB, 0x40]
  | .bit_0_C => [0xCB, 0x41]
  | .bit_0_D => [0xCB, 0x42]
  | .bit_0_E => [0xCB, 0x43]
  | .bit_0_H => [0xCB, 0x44]
  | .bit_0_L => [0xCB, 0x45]
  | .bit_0_atHL => [0xCB, 0x46]
  | .bit_0_A => [0xCB, 0x47]
  | .bit_1_B => [0xCB, 0x48]
  | .bit_1_C => [0xCB, 0x49]
  | .bit_1_D => [0xCB, 0x4A]
  | .bit_1_E => [0xCB, 0x4B]
  | .bit_1_H => [0xCB, 0x4C]
  | .bit_1_L => [0xCB, 0x4D]
  | .bit_1_atHL => [0xCB, 0x4E]
  | .bit_1_A => [0xCB, 0x4F]
  | .bit_2_B => [0xCB, 0x50]
  | .bit_2_C => [0xCB, 0x51]
  | .bit_2_D => [0xCB, 0x52]
  | .bit_2_E => [0xCB, 0x53]
  | .bit_2_H => [0xCB, 0x54]
  | .bit_2_L => [0xCB, 0x55]
  | .bit_2_atHL => [0xCB, 0x56]
  | .bit_2_A => [0xCB, 0x57]
  | .bit_3_B => [0xCB, 0x58]
  | .bit_3_C => [0xCB, 0x59]
  | .bit_3_D => [0xCB, 0x5A]
  | .bit_3_E => [0xCB, 0x5B]
  | .bit_3_H => [0xCB, 0x5C]
  | .bit_3_L => [0xCB, 0x5D]
  | .bit_3_atHL => [0xCB, 0x5E]
  | .bit_3_A => [0xCB, 0x5F]
  | .bit_4_B => [0xCB, 0x60]
  | .bit_4_C => [0xCB, 0x61]
  | .bit_4_D => [0xCB, 0x62]
  | .bit_4_E => [0xCB, 0x63]
  | .bit_4_H => [0xCB, 0x64]
  | .bit_4_L => [0xCB, 0x65]
  | .bit_4_atHL => [0xCB, 0x66]
  | .bit_4_A => [0xCB, 0x67]
  | .bit_5_B => [0xCB, 0x68]
  | .bit_5_C => [0xCB, 0x69]
  | .bit_5_D => [0xCB, 0x6A]
  | .bit_5_E => [0xCB, 0x6B]
  | .bit_5_H => [0xCB, 0x6C]
  | .bit_5_L => [0xCB, 0x6D]
  | .bit_5_atHL => [0xCB, 0x6E]
  | .bit_5_A => [0xCB, 0x6F]
  | .bit_6_B => [0xCB, 0x70]
  | .bit_6_C => [0xCB, 0x71]
  | .bit_6_D => [0xCB, 0x72]
  | .bit_6_E => [0xCB, 0x73]
  | .bit_6_H => [0xCB, 0x74]
  | .bit_6_L => [0xCB, 0x75]
  | .bit_6_atHL => [0xCB, 0x76]
  | .bit_6_A => [0xCB, 0x77]
  | .bit_7_B => [0xCB, 0x78]
  | .bit_7_C => [0xCB, 0x79]
  | .bit_7_D => [0xCB, 0x7A]
  | .bit_7_E => [0xCB, 0x7B]
  | .bit_7_H => [0xCB, 0x7C]
  | .bit_7_L => [0xCB, 0x7D]
  | .bit_7_atHL => [0xCB, 0x7E]
  | .bit_7_A => [0xCB, 0x7F]
  | .res_0_B => [0xCB, 0x80]
  | .res_0_C => [0xCB, 0x81]
  | .res_0_D => [0xCB, 0x82]
  | .res_0_E => [0xCB, 0x83]
  | .res_0_H => [0xCB, 0x84]
  | .res_0_L => [0xCB, 0x85]
  | .res_0_atHL => [0xCB, 0x86]
  | .res_0_A => [0xCB, 0x87]
  | .res_1_B => [0xCB, 0x88]
  | .res_1_C => [0xCB, 0x89]
  | .res_1_D => [0xCB, 0x8A]
  | .res_1_E => [0xCB, 0x8B]
  | .res_1_H => [0xCB, 0x8C]
  | .res_1_L => [0xCB, 0x8D]
  | .res_1_atHL => [0xCB, 0x8E]
  | .res_1_A => [0xCB, 0x8F]
  | .res_2_B => [0xCB, 0x90]
  | .res_2_C => [0xCB, 0x91]
  | .res_2_D => [0xCB, 0x92]
  | .res_2_E => [0xCB, 0x93]
  | .res_2_H => [0xCB, 0x94]
  | .res_2_L => [0xCB, 0x95]
  | .res_2_atHL => [0xCB, 0x96]
  | .res_2_A => [0xCB, 0x97]
  | .res_3_B => [0xCB, 0x98]
  | .res_3_C => [0xCB, 0x99]
  | .res_3_D => [0xCB, 0x9A]
  | .res_3_E => [0xCB, 0x9B]
  | .res_3_H => [0xCB, 0x9C]
  | .res_3_L => [0xCB, 0x9D]
  | .res_3_atHL => [0xCB, 0x9E]
  | .res_3_A => [0xCB, 0x9F]
  | .res_4_B => [0xCB, 0xA0]
  | .res_4_C => [0xCB, 0xA1]
  | .res_4_D => [0xCB, 0xA2]
  | .res_4_E => [0xCB, 0xA3]
  | .res_4_H => [0xCB, 0xA4]
  | .res_4_L => [0xCB, 0xA5]
  | .res_4_atHL => [0xCB, 0xA6]
  | .res_4_A => [0xCB, 0xA7]
  | .res_5_B => [0xCB, 0xA8]
  | .res_5_C => [0xCB, 0xA9]
  | .res_5_D => [0xCB, 0xAA]
  | .res_5_E => [0xCB, 0xAB]
  | .res_5_H => [0xCB, 0xAC]
  | .res_5_L => [0xCB, 0xAD]
  | .res_5_atHL => [0xCB, 0xAE]
  | .res_5_A => [0xCB, 0xAF]
  | .res_6_B => [0xCB, 0xB0]
  | .res_6_C => [0xCB, 0xB1]
  | .res_6_D => [0xCB, 0xB2]
  | .res_6_E => [0xCB, 0xB3]
  | .res_6_H => [0xCB, 0xB4]
  | .res_6_L => [0xCB, 0xB5]
  | .res_6_atHL => [0xCB, 0xB6]
  | .res_6_A => [0xCB, 0xB7]
  | .res_7_B => [0xCB, 0xB8]
  | .res_7_C => [0xCB, 0xB9]
  | .res_7_D => [0xCB, 0xBA]
  | .res_7_E => [0xCB, 0xBB]
  | .res_7_H => [0xCB, 0xBC]
  | .res_7_L => [0xCB, 0xBD]
  | .res_7_atHL => [0xCB, 0xBE]
  | .res_7_A => [0xCB, 0xBF]
  | .set_0_B => [0xCB, 0xC0]
  | .set_0_C => [0xCB, 0xC1]
  | .set_0_D => [0xCB, 0xC2]
  | .set_0_E => [0xCB, 0xC3]
  | .set_0_H => [0xCB, 0xC4]
  | .set_0_L => [0xCB, 0xC5]
  | .set_0_atHL => [0xCB, 0xC6]
  | .set_0_A => [0xCB, 0xC7]
  | .set_1_B => [0xCB, 0xC8]
  | .set_1_C => [0xCB, 0xC9]
  | .set_1_D => [0xCB, 0xCA]
  | .set_1_E => [0xCB, 0xCB]
  | .set_1_H => [0xCB, 0xCC]
  | .set_1_L => [0xCB, 0xCD]
  | .set_1_atHL => [0xCB, 0xCE]
  | .set_1_A => [0xCB, 0xCF]
  | .set_2_B => [0xCB, 0xD0]
  | .set_2_C => [0xCB, 0xD1]
  | .set_2_D => [0xCB, 0xD2]
  | .set_2_E => [0xCB, 0xD3]
  | .set_2_H => [0xCB, 0xD4]
  | .set_2_L => [0xCB, 0xD5]
  | .set_2_atHL => [0xCB, 0xD6]
  | .set_2_A => [0xCB, 0xD7]
  | .set_3_B => [0xCB, 0xD8]
  | .set_3_C => [0xCB, 0xD9]
  | .set_3_D => [0xCB, 0xDA]
  | .set_3_E => [0xCB, 0xDB]
  | .set_3_H => [0xCB, 0xDC]
  | .set_3_L => [0xCB, 0xDD]
  | .set_3_atHL => [0xCB, 0xDE]
  | .set_3_A => [0xCB, 0xDF]
  | .set_4_B => [0xCB, 0xE0]
  | .set_4_C => [0xCB, 0xE1]
  | .set_4_D => [0xCB, 0xE2]
  | .set_4_E => [0xCB, 0xE3]
  | .set_4_H => [0xCB, 0xE4]
  | .set_4_L => [0xCB, 0xE5]
  | .set_4_atHL => [0xCB, 0xE6]
  | .set_4_A => [0xCB, 0xE7]
  | .set_5_B => [0xCB, 0xE8]
  | .set_5_C => [0xCB, 0xE9]
  | .set_5_D => [0xCB, 0xEA]
  | .set_5_E => [0xCB, 0xEB]
  | .set_5_H => [0xCB, 0xEC]
  | .set_5_L => [0xCB, 0xED]
  | .set_5_atHL => [0xCB, 0xEE]
  | .set_5_A => [0xCB, 0xEF]
  | .set_6_B => [0xCB, 0xF0]
  | .set_6_C => [0xCB, 0xF1]
  | .set_6_D => [0xCB, 0xF2]
  | .set_6_E => [0xCB, 0xF3]
  | .set_6_H => [0xCB, 0xF4]
  | .set_6_L => [0xCB, 0xF5]
  | .set_6_atHL => [0xCB, 0xF6]
  | .set_6_A => [0xCB, 0xF7]
  | .set_7_B => [0xCB, 0xF8]
  | .set_7_C => [0xCB, 0xF9]
  | .set_7_D => [0xCB, 0xFA]
  | .set_7_E => [0xCB, 0xFB]
  | .set_7_H => [0xCB, 0xFC]
  | .set_7_L => [0xCB, 0xFD]
  | .set_7_atHL => [0xCB, 0xFE]
  | .set_7_A => [0xCB, 0xFF]

/-- The bytes that a word of spec/opcode_table.json stands for, three of them, the missing ones zero. A 16-bit word
of the table is an extended row with the prefix in its high byte, the first byte most significant (R157); any other
word has its first byte in bits 7:0 (notes/assumptions/3.md). -/
def tableBytes (nbits w : Nat) : List Byte :=
  if nbits = 16 ∧ w / 256 % 256 = 0xCB then [0xCB, BitVec.ofNat 8 (w % 256), 0x00]
  else
    let w := w % 2 ^ nbits
    [BitVec.ofNat 8 (w % 256), BitVec.ofNat 8 (w / 256 % 256), BitVec.ofNat 8 (w / 65536 % 256)]

/-- The instruction the decoder reads from a word of spec/opcode_table.json. -/
def decodeTableWord (nbits w : Nat) : Option Instr :=
  match decode (tableBytes nbits w) with
  | .ok (i, _) => some i
  | .error _ => none

/-- The value of a 3-bit register field (R144). -/
def Reg.index : Reg → Byte
  | .b => 0
  | .c => 1
  | .d => 2
  | .e => 3
  | .h => 4
  | .l => 5
  | .a => 7

/-- The value of a 2-bit pair field (R144). -/
def Pair.index : Pair → Byte
  | .bc => 0
  | .de => 1
  | .hl => 2
  | .sp => 3

/-- The value of a 2-bit pair field in PUSH and POP (R144). -/
def StackPair.index : StackPair → Byte
  | .bc => 0
  | .de => 1
  | .hl => 2
  | .af => 3

/-- The value of a condition field (R144). -/
def Cond.index : Cond → Byte
  | .nz => 0
  | .z => 1
  | .nc => 2
  | .c => 3

/-- The value of an ALU operation field (R144). -/
def AluOp.index : AluOp → Byte
  | .add => 0
  | .adc => 1
  | .sub => 2
  | .sbc => 3
  | .and => 4
  | .xor => 5
  | .or => 6
  | .cp => 7

/-- The value of a rotate operation field (R144). -/
def RotOp.index : RotOp → Byte
  | .rlc => 0
  | .rrc => 1
  | .rl => 2
  | .rr => 3
  | .sla => 4
  | .sra => 5
  | .swap => 6
  | .srl => 7

/-- The rotate operation of a field value (R144). -/
def RotOp.ofIndex (y : BitVec 3) : RotOp :=
  if y = 0 then .rlc else if y = 1 then .rrc else if y = 2 then .rl else if y = 3 then .rr
  else if y = 4 then .sla else if y = 5 then .sra else if y = 6 then .swap else .srl

/-- The register of a field value; none for 6, the memory byte at HL (R144, R145). -/
def Reg.ofIndex (z : BitVec 3) : Option Reg :=
  if z = 0 then some .b else if z = 1 then some .c else if z = 2 then some .d
  else if z = 3 then some .e else if z = 4 then some .h else if z = 5 then some .l
  else if z = 6 then none else some .a

/-- The 3-bit value of a field with no operand of its own in the table: 6, the memory byte at HL (R145). -/
def memIndex : Byte := 6

/-- A bit number, or a restart target field, as a byte. -/
def bitIndex (b : Fin 8) : Byte := BitVec.ofNat 8 b.val

namespace Instr

/-- `LD r,r'`: `01dddsss` (R153). -/
def ldRegReg (dst src : Reg) : Instr := decodeBase (0x40 + 8 * dst.index + src.index) 0 0
/-- `LD r,n`: `00ddd110` (R153). -/
def ldRegImm (dst : Reg) (n : Byte) : Instr := decodeBase (0x06 + 8 * dst.index) n 0
/-- `LD r,(HL)`: `01ddd110` (R153). -/
def ldRegMem (dst : Reg) : Instr := decodeBase (0x40 + 8 * dst.index + memIndex) 0 0
/-- `LD (HL),r`: `01110sss` (R153). -/
def ldMemReg (src : Reg) : Instr := decodeBase (0x70 + src.index) 0 0
/-- `LD rr,nn`: `00pp0001` (R153). -/
def ldPairImm (p : Pair) (nn : Word) : Instr := decodeBase (0x01 + 16 * p.index) 0 nn
/-- `PUSH rr`: `11pp0101` (R153). -/
def push (p : StackPair) : Instr := decodeBase (0xC5 + 16 * p.index) 0 0
/-- `POP rr`: `11pp0001` (R153). -/
def pop (p : StackPair) : Instr := decodeBase (0xC1 + 16 * p.index) 0 0
/-- An ALU operation on a register: `10aaasss` (R153). -/
def aluReg (op : AluOp) (src : Reg) : Instr := decodeBase (0x80 + 8 * op.index + src.index) 0 0
/-- An ALU operation on the byte at HL: `10aaa110` (R153). -/
def aluMem (op : AluOp) : Instr := decodeBase (0x80 + 8 * op.index + memIndex) 0 0
/-- An ALU operation on an immediate: `11aaa110` (R153). -/
def aluImm (op : AluOp) (n : Byte) : Instr := decodeBase (0xC6 + 8 * op.index) n 0
/-- `INC r`: `00ddd100` (R153). -/
def incReg (dst : Reg) : Instr := decodeBase (0x04 + 8 * dst.index) 0 0
/-- `DEC r`: `00ddd101` (R153). -/
def decReg (dst : Reg) : Instr := decodeBase (0x05 + 8 * dst.index) 0 0
/-- `ADD HL,rr`: `00pp1001` (R153). -/
def addHl (p : Pair) : Instr := decodeBase (0x09 + 16 * p.index) 0 0
/-- `INC rr`: `00pp0011` (R153). -/
def incPair (p : Pair) : Instr := decodeBase (0x03 + 16 * p.index) 0 0
/-- `DEC rr`: `00pp1011` (R153). -/
def decPair (p : Pair) : Instr := decodeBase (0x0B + 16 * p.index) 0 0
/-- `JP cc,nn`: `110cc010` (R153). -/
def jpCond (cc : Cond) (nn : Word) : Instr := decodeBase (0xC2 + 8 * cc.index) 0 nn
/-- `JR cc,e`: `001cc000` (R153). -/
def jrCond (cc : Cond) (n : Byte) : Instr := decodeBase (0x20 + 8 * cc.index) n 0
/-- `CALL cc,nn`: `110cc100` (R153). -/
def callCond (cc : Cond) (nn : Word) : Instr := decodeBase (0xC4 + 8 * cc.index) 0 nn
/-- `RET cc`: `110cc000` (R153). -/
def retCond (cc : Cond) : Instr := decodeBase (0xC0 + 8 * cc.index) 0 0
/-- `RST t`: `11ttt111` (R153). -/
def rst (t : Fin 8) : Instr := decodeBase (0xC7 + 8 * bitIndex t) 0 0
/-- An extended rotate or shift on a register: `00yyysss` (R154). -/
def rotReg (op : RotOp) (r : Reg) : Instr := decodeExt (8 * op.index + r.index)
/-- An extended rotate or shift on the byte at HL: `00yyy110` (R154). -/
def rotMem (op : RotOp) : Instr := decodeExt (8 * op.index + memIndex)
/-- `BIT b,r`: `01bbbsss` (R154). -/
def bitReg (b : Fin 8) (r : Reg) : Instr := decodeExt (0x40 + 8 * bitIndex b + r.index)
/-- `BIT b,(HL)`: `01bbb110` (R154). -/
def bitMem (b : Fin 8) : Instr := decodeExt (0x40 + 8 * bitIndex b + memIndex)
/-- `RES b,r`: `10bbbsss` (R154). -/
def resReg (b : Fin 8) (r : Reg) : Instr := decodeExt (0x80 + 8 * bitIndex b + r.index)
/-- `RES b,(HL)`: `10bbb110` (R154). -/
def resMem (b : Fin 8) : Instr := decodeExt (0x80 + 8 * bitIndex b + memIndex)
/-- `SET b,r`: `11bbbsss` (R154). -/
def setReg (b : Fin 8) (r : Reg) : Instr := decodeExt (0xC0 + 8 * bitIndex b + r.index)
/-- `SET b,(HL)`: `11bbb110` (R154). -/
def setMem (b : Fin 8) : Instr := decodeExt (0xC0 + 8 * bitIndex b + memIndex)

end Instr

end Sys2Proof
end

