-- ==== Sys2Proof/Machine/Rotate.lean ====
section
/-! DEFINITION. The rotate, shift, swap and bit instructions (spec 44_rotate_shift_bit.md). -/

namespace Sys2Proof.Machine

/-- An accumulator rotate of the base table: the extended rotate's result on A, Z cleared (R271 to R274). -/
def rotA (op : RotOp) (s : State) : Result :=
  let rc := rotResult op s.cpu.a s.cpu.f.c
  .next (s.withCpu ((s.cpu.setAF (rc.1, rotAFlags rc.2)).retire 1 1))

/-- A row of R270 on a register. -/
def rotReg (op : RotOp) (r : Reg) (s : State) : Result :=
  let rc := rotResult op (s.cpu.reg r) s.cpu.f.c
  .next (s.withCpu ((({ s.cpu with f := rotFlags rc.1 rc.2 } : Cpu).setReg r rc.1).retire 2 2))

/-- A row of R270 on the byte at HL. -/
def rotMem (op : RotOp) (s : State) : Result :=
  let rc := rotResult op (memRead s s.cpu.hl) s.cpu.f.c
  modifyMem rc.1 (rotFlags rc.1 rc.2) 2 4 s

/-- `BIT b,r` (R291). -/
def bitReg (b : Fin 8) (r : Reg) (s : State) : Result :=
  .next (s.withCpu (({ s.cpu with f := bitFlags s.cpu.f (s.cpu.reg r) b } : Cpu).retire 2 2))

/-- `BIT b,(HL)`; memory is not written (R292). -/
def bitMem (b : Fin 8) (s : State) : Result :=
  .next (s.withCpu (({ s.cpu with f := bitFlags s.cpu.f (memRead s s.cpu.hl) b } : Cpu).retire 2 3))

/-- `RES b,r` (R293). -/
def resReg (b : Fin 8) (r : Reg) (s : State) : Result :=
  .next (s.withCpu ((s.cpu.setReg r (clearBit (s.cpu.reg r) b)).retire 2 2))

/-- `RES b,(HL)`; the write happens even when the bit was clear (R294). -/
def resMem (b : Fin 8) (s : State) : Result :=
  modifyMem (clearBit (memRead s s.cpu.hl) b) s.cpu.f 2 4 s

/-- `SET b,r` (R295). -/
def setReg (b : Fin 8) (r : Reg) (s : State) : Result :=
  .next (s.withCpu ((s.cpu.setReg r (assertBit (s.cpu.reg r) b)).retire 2 2))

/-- `SET b,(HL)`; the write happens even when the bit was set (R296). -/
def setMem (b : Fin 8) (s : State) : Result :=
  modifyMem (assertBit (memRead s s.cpu.hl) b) s.cpu.f 2 4 s

/-- The extended table by its fields: `x` the group, `y` the operation or the bit number, `z` the operand
(R154). -/
def execExtended (op2 : Byte) (s : State) : Result :=
  let x : BitVec 2 := op2.extractLsb' 6 2
  let y : BitVec 3 := op2.extractLsb' 3 3
  match Reg.ofIndex (op2.extractLsb' 0 3) with
  | some r =>
    if x = 0 then rotReg (RotOp.ofIndex y) r s
    else if x = 1 then bitReg y.toFin r s
    else if x = 2 then resReg y.toFin r s
    else setReg y.toFin r s
  | none =>
    if x = 0 then rotMem (RotOp.ofIndex y) s
    else if x = 1 then bitMem y.toFin s
    else if x = 2 then resMem y.toFin s
    else setMem y.toFin s

/-- `RLCA` (R271). -/
def exec_rlca (s : State) : Result := rotA .rlc s

/-- `RRCA` (R272). -/
def exec_rrca (s : State) : Result := rotA .rrc s

/-- `RLA` (R273). -/
def exec_rla (s : State) : Result := rotA .rl s

/-- `RRA` (R274). -/
def exec_rra (s : State) : Result := rotA .rr s

/-- `RLC B` (R275). -/
def exec_rlc_B (s : State) : Result := rotReg .rlc .b s

/-- `RLC C` (R275). -/
def exec_rlc_C (s : State) : Result := rotReg .rlc .c s

/-- `RLC D` (R275). -/
def exec_rlc_D (s : State) : Result := rotReg .rlc .d s

/-- `RLC E` (R275). -/
def exec_rlc_E (s : State) : Result := rotReg .rlc .e s

/-- `RLC H` (R275). -/
def exec_rlc_H (s : State) : Result := rotReg .rlc .h s

/-- `RLC L` (R275). -/
def exec_rlc_L (s : State) : Result := rotReg .rlc .l s

/-- `RLC (HL)` (R276). -/
def exec_rlc_atHL (s : State) : Result := rotMem .rlc s

/-- `RLC A` (R275). -/
def exec_rlc_A (s : State) : Result := rotReg .rlc .a s

/-- `RRC B` (R277). -/
def exec_rrc_B (s : State) : Result := rotReg .rrc .b s

/-- `RRC C` (R277). -/
def exec_rrc_C (s : State) : Result := rotReg .rrc .c s

/-- `RRC D` (R277). -/
def exec_rrc_D (s : State) : Result := rotReg .rrc .d s

/-- `RRC E` (R277). -/
def exec_rrc_E (s : State) : Result := rotReg .rrc .e s

/-- `RRC H` (R277). -/
def exec_rrc_H (s : State) : Result := rotReg .rrc .h s

/-- `RRC L` (R277). -/
def exec_rrc_L (s : State) : Result := rotReg .rrc .l s

/-- `RRC (HL)` (R278). -/
def exec_rrc_atHL (s : State) : Result := rotMem .rrc s

/-- `RRC A` (R277). -/
def exec_rrc_A (s : State) : Result := rotReg .rrc .a s

/-- `RL B` (R279). -/
def exec_rl_B (s : State) : Result := rotReg .rl .b s

/-- `RL C` (R279). -/
def exec_rl_C (s : State) : Result := rotReg .rl .c s

/-- `RL D` (R279). -/
def exec_rl_D (s : State) : Result := rotReg .rl .d s

/-- `RL E` (R279). -/
def exec_rl_E (s : State) : Result := rotReg .rl .e s

/-- `RL H` (R279). -/
def exec_rl_H (s : State) : Result := rotReg .rl .h s

/-- `RL L` (R279). -/
def exec_rl_L (s : State) : Result := rotReg .rl .l s

/-- `RL (HL)` (R280). -/
def exec_rl_atHL (s : State) : Result := rotMem .rl s

/-- `RL A` (R279). -/
def exec_rl_A (s : State) : Result := rotReg .rl .a s

/-- `RR B` (R281). -/
def exec_rr_B (s : State) : Result := rotReg .rr .b s

/-- `RR C` (R281). -/
def exec_rr_C (s : State) : Result := rotReg .rr .c s

/-- `RR D` (R281). -/
def exec_rr_D (s : State) : Result := rotReg .rr .d s

/-- `RR E` (R281). -/
def exec_rr_E (s : State) : Result := rotReg .rr .e s

/-- `RR H` (R281). -/
def exec_rr_H (s : State) : Result := rotReg .rr .h s

/-- `RR L` (R281). -/
def exec_rr_L (s : State) : Result := rotReg .rr .l s

/-- `RR (HL)` (R282). -/
def exec_rr_atHL (s : State) : Result := rotMem .rr s

/-- `RR A` (R281). -/
def exec_rr_A (s : State) : Result := rotReg .rr .a s

/-- `SLA B` (R283). -/
def exec_sla_B (s : State) : Result := rotReg .sla .b s

/-- `SLA C` (R283). -/
def exec_sla_C (s : State) : Result := rotReg .sla .c s

/-- `SLA D` (R283). -/
def exec_sla_D (s : State) : Result := rotReg .sla .d s

/-- `SLA E` (R283). -/
def exec_sla_E (s : State) : Result := rotReg .sla .e s

/-- `SLA H` (R283). -/
def exec_sla_H (s : State) : Result := rotReg .sla .h s

/-- `SLA L` (R283). -/
def exec_sla_L (s : State) : Result := rotReg .sla .l s

/-- `SLA (HL)` (R284). -/
def exec_sla_atHL (s : State) : Result := rotMem .sla s

/-- `SLA A` (R283). -/
def exec_sla_A (s : State) : Result := rotReg .sla .a s

/-- `SRA B` (R285). -/
def exec_sra_B (s : State) : Result := rotReg .sra .b s

/-- `SRA C` (R285). -/
def exec_sra_C (s : State) : Result := rotReg .sra .c s

/-- `SRA D` (R285). -/
def exec_sra_D (s : State) : Result := rotReg .sra .d s

/-- `SRA E` (R285). -/
def exec_sra_E (s : State) : Result := rotReg .sra .e s

/-- `SRA H` (R285). -/
def exec_sra_H (s : State) : Result := rotReg .sra .h s

/-- `SRA L` (R285). -/
def exec_sra_L (s : State) : Result := rotReg .sra .l s

/-- `SRA (HL)` (R286). -/
def exec_sra_atHL (s : State) : Result := rotMem .sra s

/-- `SRA A` (R285). -/
def exec_sra_A (s : State) : Result := rotReg .sra .a s

/-- `SWAP B` (R287). -/
def exec_swap_B (s : State) : Result := rotReg .swap .b s

/-- `SWAP C` (R287). -/
def exec_swap_C (s : State) : Result := rotReg .swap .c s

/-- `SWAP D` (R287). -/
def exec_swap_D (s : State) : Result := rotReg .swap .d s

/-- `SWAP E` (R287). -/
def exec_swap_E (s : State) : Result := rotReg .swap .e s

/-- `SWAP H` (R287). -/
def exec_swap_H (s : State) : Result := rotReg .swap .h s

/-- `SWAP L` (R287). -/
def exec_swap_L (s : State) : Result := rotReg .swap .l s

/-- `SWAP (HL)` (R288). -/
def exec_swap_atHL (s : State) : Result := rotMem .swap s

/-- `SWAP A` (R287). -/
def exec_swap_A (s : State) : Result := rotReg .swap .a s

/-- `SRL B` (R289). -/
def exec_srl_B (s : State) : Result := rotReg .srl .b s

/-- `SRL C` (R289). -/
def exec_srl_C (s : State) : Result := rotReg .srl .c s

/-- `SRL D` (R289). -/
def exec_srl_D (s : State) : Result := rotReg .srl .d s

/-- `SRL E` (R289). -/
def exec_srl_E (s : State) : Result := rotReg .srl .e s

/-- `SRL H` (R289). -/
def exec_srl_H (s : State) : Result := rotReg .srl .h s

/-- `SRL L` (R289). -/
def exec_srl_L (s : State) : Result := rotReg .srl .l s

/-- `SRL (HL)` (R290). -/
def exec_srl_atHL (s : State) : Result := rotMem .srl s

/-- `SRL A` (R289). -/
def exec_srl_A (s : State) : Result := rotReg .srl .a s

/-- `BIT 0,B` (R291). -/
def exec_bit_0_B (s : State) : Result := bitReg 0 .b s

/-- `BIT 0,C` (R291). -/
def exec_bit_0_C (s : State) : Result := bitReg 0 .c s

/-- `BIT 0,D` (R291). -/
def exec_bit_0_D (s : State) : Result := bitReg 0 .d s

/-- `BIT 0,E` (R291). -/
def exec_bit_0_E (s : State) : Result := bitReg 0 .e s

/-- `BIT 0,H` (R291). -/
def exec_bit_0_H (s : State) : Result := bitReg 0 .h s

/-- `BIT 0,L` (R291). -/
def exec_bit_0_L (s : State) : Result := bitReg 0 .l s

/-- `BIT 0,(HL)` (R292). -/
def exec_bit_0_atHL (s : State) : Result := bitMem 0 s

/-- `BIT 0,A` (R291). -/
def exec_bit_0_A (s : State) : Result := bitReg 0 .a s

/-- `BIT 1,B` (R291). -/
def exec_bit_1_B (s : State) : Result := bitReg 1 .b s

/-- `BIT 1,C` (R291). -/
def exec_bit_1_C (s : State) : Result := bitReg 1 .c s

/-- `BIT 1,D` (R291). -/
def exec_bit_1_D (s : State) : Result := bitReg 1 .d s

/-- `BIT 1,E` (R291). -/
def exec_bit_1_E (s : State) : Result := bitReg 1 .e s

/-- `BIT 1,H` (R291). -/
def exec_bit_1_H (s : State) : Result := bitReg 1 .h s

/-- `BIT 1,L` (R291). -/
def exec_bit_1_L (s : State) : Result := bitReg 1 .l s

/-- `BIT 1,(HL)` (R292). -/
def exec_bit_1_atHL (s : State) : Result := bitMem 1 s

/-- `BIT 1,A` (R291). -/
def exec_bit_1_A (s : State) : Result := bitReg 1 .a s

/-- `BIT 2,B` (R291). -/
def exec_bit_2_B (s : State) : Result := bitReg 2 .b s

/-- `BIT 2,C` (R291). -/
def exec_bit_2_C (s : State) : Result := bitReg 2 .c s

/-- `BIT 2,D` (R291). -/
def exec_bit_2_D (s : State) : Result := bitReg 2 .d s

/-- `BIT 2,E` (R291). -/
def exec_bit_2_E (s : State) : Result := bitReg 2 .e s

/-- `BIT 2,H` (R291). -/
def exec_bit_2_H (s : State) : Result := bitReg 2 .h s

/-- `BIT 2,L` (R291). -/
def exec_bit_2_L (s : State) : Result := bitReg 2 .l s

/-- `BIT 2,(HL)` (R292). -/
def exec_bit_2_atHL (s : State) : Result := bitMem 2 s

/-- `BIT 2,A` (R291). -/
def exec_bit_2_A (s : State) : Result := bitReg 2 .a s

/-- `BIT 3,B` (R291). -/
def exec_bit_3_B (s : State) : Result := bitReg 3 .b s

/-- `BIT 3,C` (R291). -/
def exec_bit_3_C (s : State) : Result := bitReg 3 .c s

/-- `BIT 3,D` (R291). -/
def exec_bit_3_D (s : State) : Result := bitReg 3 .d s

/-- `BIT 3,E` (R291). -/
def exec_bit_3_E (s : State) : Result := bitReg 3 .e s

/-- `BIT 3,H` (R291). -/
def exec_bit_3_H (s : State) : Result := bitReg 3 .h s

/-- `BIT 3,L` (R291). -/
def exec_bit_3_L (s : State) : Result := bitReg 3 .l s

/-- `BIT 3,(HL)` (R292). -/
def exec_bit_3_atHL (s : State) : Result := bitMem 3 s

/-- `BIT 3,A` (R291). -/
def exec_bit_3_A (s : State) : Result := bitReg 3 .a s

/-- `BIT 4,B` (R291). -/
def exec_bit_4_B (s : State) : Result := bitReg 4 .b s

/-- `BIT 4,C` (R291). -/
def exec_bit_4_C (s : State) : Result := bitReg 4 .c s

/-- `BIT 4,D` (R291). -/
def exec_bit_4_D (s : State) : Result := bitReg 4 .d s

/-- `BIT 4,E` (R291). -/
def exec_bit_4_E (s : State) : Result := bitReg 4 .e s

/-- `BIT 4,H` (R291). -/
def exec_bit_4_H (s : State) : Result := bitReg 4 .h s

/-- `BIT 4,L` (R291). -/
def exec_bit_4_L (s : State) : Result := bitReg 4 .l s

/-- `BIT 4,(HL)` (R292). -/
def exec_bit_4_atHL (s : State) : Result := bitMem 4 s

/-- `BIT 4,A` (R291). -/
def exec_bit_4_A (s : State) : Result := bitReg 4 .a s

/-- `BIT 5,B` (R291). -/
def exec_bit_5_B (s : State) : Result := bitReg 5 .b s

/-- `BIT 5,C` (R291). -/
def exec_bit_5_C (s : State) : Result := bitReg 5 .c s

/-- `BIT 5,D` (R291). -/
def exec_bit_5_D (s : State) : Result := bitReg 5 .d s

/-- `BIT 5,E` (R291). -/
def exec_bit_5_E (s : State) : Result := bitReg 5 .e s

/-- `BIT 5,H` (R291). -/
def exec_bit_5_H (s : State) : Result := bitReg 5 .h s

/-- `BIT 5,L` (R291). -/
def exec_bit_5_L (s : State) : Result := bitReg 5 .l s

/-- `BIT 5,(HL)` (R292). -/
def exec_bit_5_atHL (s : State) : Result := bitMem 5 s

/-- `BIT 5,A` (R291). -/
def exec_bit_5_A (s : State) : Result := bitReg 5 .a s

/-- `BIT 6,B` (R291). -/
def exec_bit_6_B (s : State) : Result := bitReg 6 .b s

/-- `BIT 6,C` (R291). -/
def exec_bit_6_C (s : State) : Result := bitReg 6 .c s

/-- `BIT 6,D` (R291). -/
def exec_bit_6_D (s : State) : Result := bitReg 6 .d s

/-- `BIT 6,E` (R291). -/
def exec_bit_6_E (s : State) : Result := bitReg 6 .e s

/-- `BIT 6,H` (R291). -/
def exec_bit_6_H (s : State) : Result := bitReg 6 .h s

/-- `BIT 6,L` (R291). -/
def exec_bit_6_L (s : State) : Result := bitReg 6 .l s

/-- `BIT 6,(HL)` (R292). -/
def exec_bit_6_atHL (s : State) : Result := bitMem 6 s

/-- `BIT 6,A` (R291). -/
def exec_bit_6_A (s : State) : Result := bitReg 6 .a s

/-- `BIT 7,B` (R291). -/
def exec_bit_7_B (s : State) : Result := bitReg 7 .b s

/-- `BIT 7,C` (R291). -/
def exec_bit_7_C (s : State) : Result := bitReg 7 .c s

/-- `BIT 7,D` (R291). -/
def exec_bit_7_D (s : State) : Result := bitReg 7 .d s

/-- `BIT 7,E` (R291). -/
def exec_bit_7_E (s : State) : Result := bitReg 7 .e s

/-- `BIT 7,H` (R291). -/
def exec_bit_7_H (s : State) : Result := bitReg 7 .h s

/-- `BIT 7,L` (R291). -/
def exec_bit_7_L (s : State) : Result := bitReg 7 .l s

/-- `BIT 7,(HL)` (R292). -/
def exec_bit_7_atHL (s : State) : Result := bitMem 7 s

/-- `BIT 7,A` (R291). -/
def exec_bit_7_A (s : State) : Result := bitReg 7 .a s

/-- `RES 0,B` (R293). -/
def exec_res_0_B (s : State) : Result := resReg 0 .b s

/-- `RES 0,C` (R293). -/
def exec_res_0_C (s : State) : Result := resReg 0 .c s

/-- `RES 0,D` (R293). -/
def exec_res_0_D (s : State) : Result := resReg 0 .d s

/-- `RES 0,E` (R293). -/
def exec_res_0_E (s : State) : Result := resReg 0 .e s

/-- `RES 0,H` (R293). -/
def exec_res_0_H (s : State) : Result := resReg 0 .h s

/-- `RES 0,L` (R293). -/
def exec_res_0_L (s : State) : Result := resReg 0 .l s

/-- `RES 0,(HL)` (R294). -/
def exec_res_0_atHL (s : State) : Result := resMem 0 s

/-- `RES 0,A` (R293). -/
def exec_res_0_A (s : State) : Result := resReg 0 .a s

/-- `RES 1,B` (R293). -/
def exec_res_1_B (s : State) : Result := resReg 1 .b s

/-- `RES 1,C` (R293). -/
def exec_res_1_C (s : State) : Result := resReg 1 .c s

/-- `RES 1,D` (R293). -/
def exec_res_1_D (s : State) : Result := resReg 1 .d s

/-- `RES 1,E` (R293). -/
def exec_res_1_E (s : State) : Result := resReg 1 .e s

/-- `RES 1,H` (R293). -/
def exec_res_1_H (s : State) : Result := resReg 1 .h s

/-- `RES 1,L` (R293). -/
def exec_res_1_L (s : State) : Result := resReg 1 .l s

/-- `RES 1,(HL)` (R294). -/
def exec_res_1_atHL (s : State) : Result := resMem 1 s

/-- `RES 1,A` (R293). -/
def exec_res_1_A (s : State) : Result := resReg 1 .a s

/-- `RES 2,B` (R293). -/
def exec_res_2_B (s : State) : Result := resReg 2 .b s

/-- `RES 2,C` (R293). -/
def exec_res_2_C (s : State) : Result := resReg 2 .c s

/-- `RES 2,D` (R293). -/
def exec_res_2_D (s : State) : Result := resReg 2 .d s

/-- `RES 2,E` (R293). -/
def exec_res_2_E (s : State) : Result := resReg 2 .e s

/-- `RES 2,H` (R293). -/
def exec_res_2_H (s : State) : Result := resReg 2 .h s

/-- `RES 2,L` (R293). -/
def exec_res_2_L (s : State) : Result := resReg 2 .l s

/-- `RES 2,(HL)` (R294). -/
def exec_res_2_atHL (s : State) : Result := resMem 2 s

/-- `RES 2,A` (R293). -/
def exec_res_2_A (s : State) : Result := resReg 2 .a s

/-- `RES 3,B` (R293). -/
def exec_res_3_B (s : State) : Result := resReg 3 .b s

/-- `RES 3,C` (R293). -/
def exec_res_3_C (s : State) : Result := resReg 3 .c s

/-- `RES 3,D` (R293). -/
def exec_res_3_D (s : State) : Result := resReg 3 .d s

/-- `RES 3,E` (R293). -/
def exec_res_3_E (s : State) : Result := resReg 3 .e s

/-- `RES 3,H` (R293). -/
def exec_res_3_H (s : State) : Result := resReg 3 .h s

/-- `RES 3,L` (R293). -/
def exec_res_3_L (s : State) : Result := resReg 3 .l s

/-- `RES 3,(HL)` (R294). -/
def exec_res_3_atHL (s : State) : Result := resMem 3 s

/-- `RES 3,A` (R293). -/
def exec_res_3_A (s : State) : Result := resReg 3 .a s

/-- `RES 4,B` (R293). -/
def exec_res_4_B (s : State) : Result := resReg 4 .b s

/-- `RES 4,C` (R293). -/
def exec_res_4_C (s : State) : Result := resReg 4 .c s

/-- `RES 4,D` (R293). -/
def exec_res_4_D (s : State) : Result := resReg 4 .d s

/-- `RES 4,E` (R293). -/
def exec_res_4_E (s : State) : Result := resReg 4 .e s

/-- `RES 4,H` (R293). -/
def exec_res_4_H (s : State) : Result := resReg 4 .h s

/-- `RES 4,L` (R293). -/
def exec_res_4_L (s : State) : Result := resReg 4 .l s

/-- `RES 4,(HL)` (R294). -/
def exec_res_4_atHL (s : State) : Result := resMem 4 s

/-- `RES 4,A` (R293). -/
def exec_res_4_A (s : State) : Result := resReg 4 .a s

/-- `RES 5,B` (R293). -/
def exec_res_5_B (s : State) : Result := resReg 5 .b s

/-- `RES 5,C` (R293). -/
def exec_res_5_C (s : State) : Result := resReg 5 .c s

/-- `RES 5,D` (R293). -/
def exec_res_5_D (s : State) : Result := resReg 5 .d s

/-- `RES 5,E` (R293). -/
def exec_res_5_E (s : State) : Result := resReg 5 .e s

/-- `RES 5,H` (R293). -/
def exec_res_5_H (s : State) : Result := resReg 5 .h s

/-- `RES 5,L` (R293). -/
def exec_res_5_L (s : State) : Result := resReg 5 .l s

/-- `RES 5,(HL)` (R294). -/
def exec_res_5_atHL (s : State) : Result := resMem 5 s

/-- `RES 5,A` (R293). -/
def exec_res_5_A (s : State) : Result := resReg 5 .a s

/-- `RES 6,B` (R293). -/
def exec_res_6_B (s : State) : Result := resReg 6 .b s

/-- `RES 6,C` (R293). -/
def exec_res_6_C (s : State) : Result := resReg 6 .c s

/-- `RES 6,D` (R293). -/
def exec_res_6_D (s : State) : Result := resReg 6 .d s

/-- `RES 6,E` (R293). -/
def exec_res_6_E (s : State) : Result := resReg 6 .e s

/-- `RES 6,H` (R293). -/
def exec_res_6_H (s : State) : Result := resReg 6 .h s

/-- `RES 6,L` (R293). -/
def exec_res_6_L (s : State) : Result := resReg 6 .l s

/-- `RES 6,(HL)` (R294). -/
def exec_res_6_atHL (s : State) : Result := resMem 6 s

/-- `RES 6,A` (R293). -/
def exec_res_6_A (s : State) : Result := resReg 6 .a s

/-- `RES 7,B` (R293). -/
def exec_res_7_B (s : State) : Result := resReg 7 .b s

/-- `RES 7,C` (R293). -/
def exec_res_7_C (s : State) : Result := resReg 7 .c s

/-- `RES 7,D` (R293). -/
def exec_res_7_D (s : State) : Result := resReg 7 .d s

/-- `RES 7,E` (R293). -/
def exec_res_7_E (s : State) : Result := resReg 7 .e s

/-- `RES 7,H` (R293). -/
def exec_res_7_H (s : State) : Result := resReg 7 .h s

/-- `RES 7,L` (R293). -/
def exec_res_7_L (s : State) : Result := resReg 7 .l s

/-- `RES 7,(HL)` (R294). -/
def exec_res_7_atHL (s : State) : Result := resMem 7 s

/-- `RES 7,A` (R293). -/
def exec_res_7_A (s : State) : Result := resReg 7 .a s

/-- `SET 0,B` (R295). -/
def exec_set_0_B (s : State) : Result := setReg 0 .b s

/-- `SET 0,C` (R295). -/
def exec_set_0_C (s : State) : Result := setReg 0 .c s

/-- `SET 0,D` (R295). -/
def exec_set_0_D (s : State) : Result := setReg 0 .d s

/-- `SET 0,E` (R295). -/
def exec_set_0_E (s : State) : Result := setReg 0 .e s

/-- `SET 0,H` (R295). -/
def exec_set_0_H (s : State) : Result := setReg 0 .h s

/-- `SET 0,L` (R295). -/
def exec_set_0_L (s : State) : Result := setReg 0 .l s

/-- `SET 0,(HL)` (R296). -/
def exec_set_0_atHL (s : State) : Result := setMem 0 s

/-- `SET 0,A` (R295). -/
def exec_set_0_A (s : State) : Result := setReg 0 .a s

/-- `SET 1,B` (R295). -/
def exec_set_1_B (s : State) : Result := setReg 1 .b s

/-- `SET 1,C` (R295). -/
def exec_set_1_C (s : State) : Result := setReg 1 .c s

/-- `SET 1,D` (R295). -/
def exec_set_1_D (s : State) : Result := setReg 1 .d s

/-- `SET 1,E` (R295). -/
def exec_set_1_E (s : State) : Result := setReg 1 .e s

/-- `SET 1,H` (R295). -/
def exec_set_1_H (s : State) : Result := setReg 1 .h s

/-- `SET 1,L` (R295). -/
def exec_set_1_L (s : State) : Result := setReg 1 .l s

/-- `SET 1,(HL)` (R296). -/
def exec_set_1_atHL (s : State) : Result := setMem 1 s

/-- `SET 1,A` (R295). -/
def exec_set_1_A (s : State) : Result := setReg 1 .a s

/-- `SET 2,B` (R295). -/
def exec_set_2_B (s : State) : Result := setReg 2 .b s

/-- `SET 2,C` (R295). -/
def exec_set_2_C (s : State) : Result := setReg 2 .c s

/-- `SET 2,D` (R295). -/
def exec_set_2_D (s : State) : Result := setReg 2 .d s

/-- `SET 2,E` (R295). -/
def exec_set_2_E (s : State) : Result := setReg 2 .e s

/-- `SET 2,H` (R295). -/
def exec_set_2_H (s : State) : Result := setReg 2 .h s

/-- `SET 2,L` (R295). -/
def exec_set_2_L (s : State) : Result := setReg 2 .l s

/-- `SET 2,(HL)` (R296). -/
def exec_set_2_atHL (s : State) : Result := setMem 2 s

/-- `SET 2,A` (R295). -/
def exec_set_2_A (s : State) : Result := setReg 2 .a s

/-- `SET 3,B` (R295). -/
def exec_set_3_B (s : State) : Result := setReg 3 .b s

/-- `SET 3,C` (R295). -/
def exec_set_3_C (s : State) : Result := setReg 3 .c s

/-- `SET 3,D` (R295). -/
def exec_set_3_D (s : State) : Result := setReg 3 .d s

/-- `SET 3,E` (R295). -/
def exec_set_3_E (s : State) : Result := setReg 3 .e s

/-- `SET 3,H` (R295). -/
def exec_set_3_H (s : State) : Result := setReg 3 .h s

/-- `SET 3,L` (R295). -/
def exec_set_3_L (s : State) : Result := setReg 3 .l s

/-- `SET 3,(HL)` (R296). -/
def exec_set_3_atHL (s : State) : Result := setMem 3 s

/-- `SET 3,A` (R295). -/
def exec_set_3_A (s : State) : Result := setReg 3 .a s

/-- `SET 4,B` (R295). -/
def exec_set_4_B (s : State) : Result := setReg 4 .b s

/-- `SET 4,C` (R295). -/
def exec_set_4_C (s : State) : Result := setReg 4 .c s

/-- `SET 4,D` (R295). -/
def exec_set_4_D (s : State) : Result := setReg 4 .d s

/-- `SET 4,E` (R295). -/
def exec_set_4_E (s : State) : Result := setReg 4 .e s

/-- `SET 4,H` (R295). -/
def exec_set_4_H (s : State) : Result := setReg 4 .h s

/-- `SET 4,L` (R295). -/
def exec_set_4_L (s : State) : Result := setReg 4 .l s

/-- `SET 4,(HL)` (R296). -/
def exec_set_4_atHL (s : State) : Result := setMem 4 s

/-- `SET 4,A` (R295). -/
def exec_set_4_A (s : State) : Result := setReg 4 .a s

/-- `SET 5,B` (R295). -/
def exec_set_5_B (s : State) : Result := setReg 5 .b s

/-- `SET 5,C` (R295). -/
def exec_set_5_C (s : State) : Result := setReg 5 .c s

/-- `SET 5,D` (R295). -/
def exec_set_5_D (s : State) : Result := setReg 5 .d s

/-- `SET 5,E` (R295). -/
def exec_set_5_E (s : State) : Result := setReg 5 .e s

/-- `SET 5,H` (R295). -/
def exec_set_5_H (s : State) : Result := setReg 5 .h s

/-- `SET 5,L` (R295). -/
def exec_set_5_L (s : State) : Result := setReg 5 .l s

/-- `SET 5,(HL)` (R296). -/
def exec_set_5_atHL (s : State) : Result := setMem 5 s

/-- `SET 5,A` (R295). -/
def exec_set_5_A (s : State) : Result := setReg 5 .a s

/-- `SET 6,B` (R295). -/
def exec_set_6_B (s : State) : Result := setReg 6 .b s

/-- `SET 6,C` (R295). -/
def exec_set_6_C (s : State) : Result := setReg 6 .c s

/-- `SET 6,D` (R295). -/
def exec_set_6_D (s : State) : Result := setReg 6 .d s

/-- `SET 6,E` (R295). -/
def exec_set_6_E (s : State) : Result := setReg 6 .e s

/-- `SET 6,H` (R295). -/
def exec_set_6_H (s : State) : Result := setReg 6 .h s

/-- `SET 6,L` (R295). -/
def exec_set_6_L (s : State) : Result := setReg 6 .l s

/-- `SET 6,(HL)` (R296). -/
def exec_set_6_atHL (s : State) : Result := setMem 6 s

/-- `SET 6,A` (R295). -/
def exec_set_6_A (s : State) : Result := setReg 6 .a s

/-- `SET 7,B` (R295). -/
def exec_set_7_B (s : State) : Result := setReg 7 .b s

/-- `SET 7,C` (R295). -/
def exec_set_7_C (s : State) : Result := setReg 7 .c s

/-- `SET 7,D` (R295). -/
def exec_set_7_D (s : State) : Result := setReg 7 .d s

/-- `SET 7,E` (R295). -/
def exec_set_7_E (s : State) : Result := setReg 7 .e s

/-- `SET 7,H` (R295). -/
def exec_set_7_H (s : State) : Result := setReg 7 .h s

/-- `SET 7,L` (R295). -/
def exec_set_7_L (s : State) : Result := setReg 7 .l s

/-- `SET 7,(HL)` (R296). -/
def exec_set_7_atHL (s : State) : Result := setMem 7 s

/-- `SET 7,A` (R295). -/
def exec_set_7_A (s : State) : Result := setReg 7 .a s

end Sys2Proof.Machine
end

