-- ==== Sys2Proof/Machine/System.lean ====
section
/-! DEFINITION. The system instructions (spec 46_system.md). -/

namespace Sys2Proof.Machine

/-- NOP: nothing but `PC <- next` (R321). -/
def nothing (s : State) : Result := .next (s.withCpu (s.cpu.retire 1 1))

/-- HALT: `HALTED <- 1; PC <- next` (R322). -/
def enterHalt (s : State) : Result := .next (s.withCpu (({ s.cpu with halted := true } : Cpu).retire 1 1))

/-- `IME <- v`, effective in the same step (R324, R325). -/
def setIme (v : Bool) (s : State) : Result := .next (s.withCpu (({ s.cpu with ime := v } : Cpu).retire 1 1))

/-- `raise Fatal(ReservedOpcode, op)` (R323, R327, R341). -/
def reservedOpcode (op : Byte) (_s : State) : Result := .fault (.reservedOpcode op)

/-- `NOP` (R321). -/
def exec_nop (s : State) : Result := nothing s

/-- `STOP` (R323). -/
def exec_stop (s : State) : Result := reservedOpcode 0x10 s

/-- `HALT` (R322). -/
def exec_halt (s : State) : Result := enterHalt s

/-- `PREFIX CB` (R326). -/
def exec_prefix_CB (s : State) : Result := execExtended (memRead s (s.cpu.pc + 1)) s

/-- `reserved` (R327). -/
def exec_reserved_D3 (s : State) : Result := reservedOpcode 0xD3 s

/-- `reserved` (R327). -/
def exec_reserved_DB (s : State) : Result := reservedOpcode 0xDB s

/-- `reserved` (R327). -/
def exec_reserved_DD (s : State) : Result := reservedOpcode 0xDD s

/-- `reserved` (R327). -/
def exec_reserved_E3 (s : State) : Result := reservedOpcode 0xE3 s

/-- `reserved` (R327). -/
def exec_reserved_E4 (s : State) : Result := reservedOpcode 0xE4 s

/-- `reserved` (R327). -/
def exec_reserved_EB (s : State) : Result := reservedOpcode 0xEB s

/-- `reserved` (R327). -/
def exec_reserved_EC (s : State) : Result := reservedOpcode 0xEC s

/-- `reserved` (R327). -/
def exec_reserved_ED (s : State) : Result := reservedOpcode 0xED s

/-- `DI` (R324). -/
def exec_di (s : State) : Result := setIme false s

/-- `reserved` (R327). -/
def exec_reserved_F4 (s : State) : Result := reservedOpcode 0xF4 s

/-- `EI` (R325). -/
def exec_ei (s : State) : Result := setIme true s

/-- `reserved` (R327). -/
def exec_reserved_FC (s : State) : Result := reservedOpcode 0xFC s

/-- `reserved` (R327). -/
def exec_reserved_FD (s : State) : Result := reservedOpcode 0xFD s

end Sys2Proof.Machine
end

