-- ==== Sys2Proof/Machine/Fetch.lean ====
section
/-! DEFINITION. Fetching an instruction's bytes through the bus (spec 20_memory.md R117, 10_state.md R39, R40),
and placing bytes where the next instruction is fetched from. -/

namespace Sys2Proof.Machine

/-- The bytes at PC, PC + 1 and PC + 2, as many as the longest instruction has (R39, R115). A read has no side
effect (R113), so reading more bytes than the instruction has changes nothing. -/
def fetchBytes (s : State) : List Byte :=
  [memRead s s.cpu.pc, memRead s (s.cpu.pc + 1), memRead s (s.cpu.pc + 2)]

/-- The instruction at PC (R140). -/
def fetchInstr (s : State) : Instr :=
  decodeBytes (memRead s s.cpu.pc) (memRead s (s.cpu.pc + 1)) (memRead s (s.cpu.pc + 2))

/-- Puts a byte into the storage behind a bus address, from outside the machine: ROM as a loader would, RAM,
video memory and the sprite table as they are addressed. A register or an unmapped address keeps what it holds. -/
def poke (s : State) (a : Word) (v : Byte) : State :=
  match busRegion a with
  | .rom0 off => { s with cart := { s.cart with rom := s.cart.rom.write off v } }
  | .romBank off => { s with cart := { s.cart with rom := s.cart.rom.write (romOffset s off) v } }
  | .vram off => { s with ppu := { s.ppu with vram := s.ppu.vram.write off v } }
  | .eram off => eramWrite s off v
  | .wram off => { s with mmu := { s.mmu with wram := s.mmu.wram.write off v } }
  | .oam off => { s with ppu := { s.ppu with oam := s.ppu.oam.write off v } }
  | .unmapped => s
  | .io _ => s
  | .hram off => { s with mmu := { s.mmu with hram := s.mmu.hram.write off v } }
  | .ie => s

/-- Bytes put at consecutive bus addresses. -/
def pokeBytes (s : State) (a : Word) : List Byte → State
  | [] => s
  | v :: vs => pokeBytes (poke s a v) (a + 1) vs

/-- The bytes at PC; where PC points at no storage that can hold them, at the entry point with PC moved there
(R443). -/
def placeAtPc (s : State) (bytes : List Byte) : State :=
  let placed := pokeBytes s s.cpu.pc bytes
  if fetchBytes placed = bytes then placed
  else pokeBytes (s.withCpu { s.cpu with pc := entryPoint }) entryPoint bytes

end Sys2Proof.Machine
end

