-- ==== Sys2Proof/Machine/Ppu.lean ====
section
/-! DEFINITION. The picture processing unit: the decoded views of video memory and the sprite table (spec
10_state.md R59, R65, R66), the scanline render (spec 60_exceptions.md R412 to R416) and the phase machine
(R404 to R409). -/

namespace Sys2Proof.Machine

/-- `tile[t][y][x]`: the tile cache as a function of video memory (R65). -/
def tilePixel (vram : Memory) (t y x : Nat) : BitVec 2 :=
  let lo := vram.read (16 * t + 2 * y)
  let hi := vram.read (16 * t + 2 * y + 1)
  (if hi.getLsbD (7 - x) then 2 else 0) ||| (if lo.getLsbD (7 - x) then 1 else 0)

/-- A palette's shade for a colour index (R59, R416). -/
def paletteShade (palette : Byte) (i : BitVec 2) : Shade := palette.extractLsb' (2 * i.toNat) 2

/-- A sprite descriptor unpacked from the sprite table (R66). -/
structure Sprite where
  /-- Screen row of the sprite's first row: byte 0 minus 16. -/
  y : Int
  /-- Screen column of the sprite's first column: byte 1 minus 8. -/
  x : Int
  tile : Byte
  /-- Background-priority flag, attribute bit 7. -/
  behind : Bool
  /-- Vertical flip, attribute bit 6. -/
  flipY : Bool
  /-- Horizontal flip, attribute bit 5. -/
  flipX : Bool
  /-- Palette select, attribute bit 4: false OBP0, true OBP1. -/
  obp1 : Bool
  deriving DecidableEq, Repr

/-- Descriptor `i` of the sprite table (R66). -/
def spriteAt (oam : Memory) (i : Nat) : Sprite :=
  let attr := oam.read (4 * i + 3)
  { y := (oam.read (4 * i)).toNat - 16, x := (oam.read (4 * i + 1)).toNat - 8,
    tile := oam.read (4 * i + 2),
    behind := attr.getLsbD 7, flipY := attr.getLsbD 6, flipX := attr.getLsbD 5,
    obp1 := attr.getLsbD 4 }

/-- The background's colour index at column `x` of line `ly`; 0 with the background disabled (R413). -/
def bgIndex (p : Ppu) (ly x : Nat) : BitVec 2 :=
  if p.lcdc.getLsbD 0 then
    let yy := (ly + p.scy.toNat) % 256
    let xx := (x + p.scx.toNat) % 256
    let map := if p.lcdc.getLsbD 3 then 0x1C00 else 0x1800
    let ti := p.vram.read (map + 32 * (yy / 8) + xx / 8)
    let tn := if p.lcdc.getLsbD 4 then ti.toNat else (256 + ti.toInt).toNat
    tilePixel p.vram tn (yy % 8) (xx % 8)
  else 0

/-- The background's shade; shade 0 with the background disabled (R413). -/
def bgShade (p : Ppu) (ly x : Nat) : Shade :=
  if p.lcdc.getLsbD 0 then paletteShade p.bgp (bgIndex p ly x) else 0

/-- `h`: rows of a sprite, by the sprite-size bit (R414). -/
def spriteHeight (p : Ppu) : Nat := if p.lcdc.getLsbD 2 then 16 else 8

/-- The colour index sprite `sp` has at column `x` of line `ly`; none where it has no pixel there (R414). -/
def spriteIndex (p : Ppu) (sp : Sprite) (ly x : Nat) : Option (BitVec 2) :=
  let h := spriteHeight p
  if sp.y ≤ ly ∧ ly < sp.y + h ∧ sp.x ≤ x ∧ x < sp.x + 8 then
    let row := (ly - sp.y).toNat
    let r := if sp.flipY then h - 1 - row else row
    let tn := if h = 16 then (sp.tile &&& 0xFE).toNat + r / 8 else sp.tile.toNat
    let col := (x - sp.x).toNat
    let cc := if sp.flipX then 7 - col else col
    some (tilePixel p.vram tn (r % 8) cc)
  else none

/-- The shade sprite `sp` puts at column `x` of line `ly`: none where it has no pixel, where its index is 0
(transparent), and where it is behind a background colour 1 to 3 (R414). -/
def spriteShade (p : Ppu) (sp : Sprite) (ly x : Nat) : Option Shade :=
  match spriteIndex p sp ly x with
  | none => none
  | some idx =>
    if idx = 0 then none
    else if sp.behind = true ∧ bgIndex p ly x ≠ 0 then none
    else some (paletteShade (if sp.obp1 then p.obp1 else p.obp0) idx)

/-- One sprite overlaid on a pixel (R414). -/
def overlaySprite (p : Ppu) (ly x : Nat) (shade : Shade) (sp : Sprite) : Shade :=
  (spriteShade p sp ly x).getD shade

/-- The 40 descriptors in table order (R66, R414). -/
def spriteTable (p : Ppu) : List Sprite := (List.range Config.spriteCount).map (spriteAt p.oam)

/-- `FB[ly][x]` after the render: the background, then the sprites in table order, later ones over earlier ones
(R412 to R414). The window registers take no part (R415). -/
def pixelShade (p : Ppu) (ly x : Nat) : Shade :=
  if p.lcdc.getLsbD 1 then (spriteTable p).foldl (overlaySprite p ly x) (bgShade p ly x)
  else bgShade p ly x

/-- A line of the frame buffer as it is at reset and until it is rendered (R67). -/
def blankLine : List Shade := List.replicate Config.screenWidth 0

/-- Line `ly` of the frame buffer. -/
def Frame.line (f : Frame) (ly : Nat) : List Shade := storeGet blankLine f ly

/-- Pixel `x` of line `ly` of the frame buffer. -/
def Frame.pixel (f : Frame) (ly x : Nat) : Shade := (f.line ly).getD x 0

/-- The canonical form of a frame buffer. -/
def Frame.wf (f : Frame) : Bool := storeWf blankLine f

/-- `RenderLine(line)` (R412). -/
def Ppu.renderLine (p : Ppu) : Ppu :=
  let rendered := (List.range Config.screenWidth).map (pixelShade p p.line.toNat)
  { p with frame := storeSet blankLine p.frame p.line.toNat rendered }

/-- What an advance tells the macro-step: an LCD-status request, and the entry to vertical blank. -/
structure PpuEvents where
  lcdStatus : Bool
  enteredVblank : Bool
  deriving DecidableEq, Repr

/-- The line compare tested when `line` changes (STAT bit 6, R408). -/
def Ppu.lycRequest (p : Ppu) : Bool := decide (p.line = p.lyc) && p.statEn.getLsbD 3

/-- OAM scan to VRAM scan (R404). -/
def Ppu.enterVramScan (p : Ppu) : Ppu × PpuEvents :=
  ({ p with dot := p.dot - oamBudget, phase := .vramScan }, { lcdStatus := false, enteredVblank := false })

/-- VRAM scan to horizontal blank: the line is rendered; STAT bit 3 (R404, R412). -/
def Ppu.enterHblank (p : Ppu) : Ppu × PpuEvents :=
  (Ppu.renderLine { p with dot := p.dot - vramBudget, phase := .hblank },
    { lcdStatus := p.statEn.getLsbD 0, enteredVblank := false })

/-- Horizontal blank to the next line, or after line 143 to vertical blank; STAT bits 4, 5, 6 (R404, R407). -/
def Ppu.leaveHblank (p : Ppu) : Ppu × PpuEvents :=
  if p.line = 143 then
    let q := { p with dot := p.dot - hblankBudget, line := 144, phase := .vblank }
    (q, { lcdStatus := p.statEn.getLsbD 1 || q.lycRequest, enteredVblank := true })
  else
    let q := { p with dot := p.dot - hblankBudget, line := p.line + 1, phase := .oamScan }
    (q, { lcdStatus := p.statEn.getLsbD 2 || q.lycRequest, enteredVblank := false })

/-- The end of a vertical-blank line slot: the next slot, or after line 153 line 0; STAT bits 5, 6 (R404). -/
def Ppu.endVblankLine (p : Ppu) : Ppu × PpuEvents :=
  if p.line = 153 then
    let q := { p with dot := p.dot - vblankLineBudget, line := 0, phase := .oamScan }
    (q, { lcdStatus := p.statEn.getLsbD 2 || q.lycRequest, enteredVblank := false })
  else
    let q := { p with dot := p.dot - vblankLineBudget, line := p.line + 1 }
    (q, { lcdStatus := q.lycRequest, enteredVblank := false })

/-- The transition out of the current phase (R404). -/
def Ppu.transition (p : Ppu) : Ppu × PpuEvents :=
  match p.phase with
  | .oamScan => p.enterVramScan
  | .vramScan => p.enterHblank
  | .hblank => p.leaveHblank
  | .vblank => p.endVblankLine

/-- Events of one advance gathered. -/
def PpuEvents.or (a b : PpuEvents) : PpuEvents :=
  { lcdStatus := a.lcdStatus || b.lcdStatus, enteredVblank := a.enteredVblank || b.enteredVblank }

/-- The loop of R404: a transition while the budget of the phase is reached, the remainder carried. The first
argument bounds the transitions; each takes at least one clock edge off `dot`, so `dot` itself is enough. -/
def Ppu.loop : Nat → Ppu × PpuEvents → Ppu × PpuEvents
  | 0, pe => pe
  | n + 1, pe =>
    if pe.1.dot ≥ phaseBudget pe.1.phase then
      Ppu.loop n (pe.1.transition.1, pe.2.or pe.1.transition.2)
    else pe

/-- `PpuAdvance(t)` on the unit's own state (R404). -/
def Ppu.advance (p : Ppu) (edges : Nat) : Ppu × PpuEvents :=
  Ppu.loop (p.dot + edges) ({ p with dot := p.dot + edges }, { lcdStatus := false, enteredVblank := false })

/-- `PpuAdvance(t)` with its requests, the VBlank request, and the finished frame handed to the host
(R352, R353, R400, R420). -/
def ppuAdvance (s : State) (edges : Nat) : State :=
  let pe := s.ppu.advance edges
  let s1 := { s with ppu := pe.1 }
  let s2 := if pe.2.lcdStatus then s1.request .lcdStatus else s1
  if pe.2.enteredVblank then
    { s2.request .vblank with host := { s2.host with presented := some pe.1.frame } }
  else s2

end Sys2Proof.Machine
end

