-- ==== Sys2Proof/Machine/Timer.lean ====
section
/-! DEFINITION. The timer's advance (spec 60_exceptions.md R380 to R386). -/

namespace Sys2Proof.Machine

/-- The delayed reload that opens an advance: a pending overflow reloads the counter (R382, R384). -/
def Timer.serveOverflow (t : Timer) : Timer :=
  if t.overflowPending then { t with tima := t.tma, overflowPending := false } else t

/-- How many times the counter increments while the divider goes from `old` to `new`, both unbounded: once for
each multiple of the divisor crossed, none when disabled (R382, R383). -/
def Timer.increments (t : Timer) (old new : Nat) : Nat :=
  if t.tac.getLsbD 2 then
    new / timerDivisor (t.tac.setWidth 2) - old / timerDivisor (t.tac.setWidth 2)
  else 0

/-- The counter incremented `k` times modulo 256; reaching 0 at any of them latches the overflow (R382). -/
def Timer.countUp (t : Timer) : Nat → Timer
  | 0 => t
  | k + 1 =>
    let tima := t.tima + 1
    Timer.countUp
      { t with tima := tima, overflowPending := t.overflowPending || decide (tima = 0) } k

/-- `TimerAdvance(t)` on the timer's own state (R381, R382). -/
def Timer.advance (t : Timer) (edges : Nat) : Timer :=
  let old := t.div16.toNat
  let new := old + edges / divStep
  let t1 := t.serveOverflow
  let t2 := t1.countUp (t1.increments old new)
  { t2 with div16 := BitVec.ofNat 16 new }

/-- `TimerAdvance(t)`: a pending overflow also requests the timer interrupt (R354, R382). -/
def timerAdvance (s : State) (edges : Nat) : State :=
  let s1 := if s.timer.overflowPending then s.request .timer else s
  { s1 with timer := s.timer.advance edges }

end Sys2Proof.Machine
end

