-- ==== Sys2Proof/Machine/MacroStep.lean ====
section
/-! DEFINITION. Everything a macro-step does around the CPU step (spec 60_exceptions.md R400 to R403): the halted
step, the peripherals, the interrupt evaluation, the host drain (R427). -/

namespace Sys2Proof.Machine

/-- The bit a key has in its group, and whether the group is the directional one (R46). -/
def Key.place : Key → Bool × Fin 4
  | .right => (true, 0)
  | .left => (true, 1)
  | .up => (true, 2)
  | .down => (true, 3)
  | .a => (false, 0)
  | .b => (false, 1)
  | .select => (false, 2)
  | .start => (false, 3)

/-- The group with a key's active-low bit cleared (pressed) or set (released) (R46, R427). -/
def setKeyBit (group : BitVec 4) (i : Fin 4) (pressed : Bool) : BitVec 4 :=
  if pressed then group &&& ~~~((1 : BitVec 4) <<< i.val) else group ||| ((1 : BitVec 4) <<< i.val)

/-- The key is up: its bit is 1 (R46). -/
def Joypad.keyUp (j : Joypad) (k : Key) : Bool :=
  if k.place.1 then j.keysDir.getLsbD k.place.2.val else j.keysAct.getLsbD k.place.2.val

/-- One transition applied to the joypad (R427). -/
def Joypad.apply (j : Joypad) (e : KeyEvent) : Joypad :=
  if e.key.place.1 then { j with keysDir := setKeyBit j.keysDir e.key.place.2 e.pressed }
  else { j with keysAct := setKeyBit j.keysAct e.key.place.2 e.pressed }

/-- One transition applied, with the record of whether any so far changed a bit from 1 to 0 (R427). -/
def drainEvent (jp : Joypad × Bool) (e : KeyEvent) : Joypad × Bool :=
  (jp.1.apply e, jp.2 || (e.pressed && jp.1.keyUp e.key))

/-- `HostDrain()`: the next list of key transitions, in order; one joypad request if a key went down
(R356, R427). -/
def hostDrain (s : State) : State :=
  match s.host.keyStream with
  | [] => s
  | evs :: rest =>
    let jp := evs.foldl drainEvent (s.joypad, false)
    let s1 := { s with joypad := jp.1, host := { s.host with keyStream := rest } }
    if jp.2 then s1.request .joypad else s1

/-- The CPU part of a macro-step spent halted: nothing is fetched, the idle cost is reported (R401). -/
def idleStep (s : State) : State := s.withCpu { s.cpu with mcycles := haltIdleMcycles }

/-- The clock edges of the CPU step: `t = 4 * m` (R11, R43). -/
def Cpu.edges (c : Cpu) : Nat := edgesPerMcycle * c.mcycles

/-- The peripherals of a macro-step: the PPU, then the timer, each by the CPU step's cost (R400, R402). -/
def advancePeripherals (s : State) : State := timerAdvance (ppuAdvance s s.cpu.edges) s.cpu.edges

/-- The rest of a macro-step after its CPU part: peripherals, interrupt evaluation, host drain. A fatal dispatch
push ends it (R400, R403). -/
def endMacroStep (s : State) : Result :=
  match interruptEvaluation (advancePeripherals s) with
  | .ok s' => .next (hostDrain s')
  | .error f => .fault f

end Sys2Proof.Machine
end

