-- ==== Sys2Proof/Machine/Step.lean ====
section
/-! DEFINITION. One macro-step of the machine (spec 60_exceptions.md R400), the machine with its fatal latch, and
the host's way to place a word where the next instruction is fetched. -/

namespace Sys2Proof.Machine

/-- The macro-step after its CPU part has answered (R400, R403). -/
def afterCpu : Result → Result
  | .next s => endMacroStep s
  | .fault f => .fault f
  | .refused r => .refused r

/-- The CPU part of a macro-step: one instruction, or one idle cycle while halted (R400, R401). -/
def cpuStep (s : State) : Result := if s.cpu.halted then .next (idleStep s) else exec (fetchInstr s) s

/-- `MacroStep()`: one instruction or one idle cycle, the peripherals by its cost, the interrupt evaluation, the
host drain; a stopped machine answers the recorded fatal condition (R400). -/
def step (s : State) : Host.Outcome State Fault Refusal :=
  match s.stopped with
  | some f => .fault f
  | none => afterCpu (cpuStep s)

/-- The state a macro-step leaves the machine in: the next state, or, after a fatal condition, the state before
it with the STOPPED latch set (R44, R340). -/
def stateAfter (s : State) : State :=
  match step s with
  | .next t => t
  | .fault f => s.latchFatal f
  | .refused _ => s

/-- `s` with the bytes of a word of spec/opcode_table.json where the next step fetches, the machine running
(notes/assumptions/3.md). -/
def State.withFetchWord (s : State) (nbits w : Nat) : State :=
  placeAtPc { s with cpu := { s.cpu with halted := false }, stopped := none } (tableBytes nbits w)

end Sys2Proof.Machine
end

