-- ==== Sys2Proof/Machine/Cartridge.lean ====
section
/-! DEFINITION. The cartridge parameters as the header of a ROM image gives them (spec 20_memory.md R104, R120), and
the machine created from an image (spec 70_reset_and_hazards.md R440, R442). -/

namespace Sys2Proof.Machine

/-- The cartridge an image configures; none for a size code the spec does not support (R104). -/
def Cartridge.ofImage (rom : Memory) : Option Cartridge :=
  match romBanksOfCode (rom.read 0x148), ramBanksOfCode (rom.read 0x149) with
  | some romBanks, some ramBanks =>
    some { rom := rom, cartType := rom.read 0x147, romBanks := romBanks, ramBanks := ramBanks }
  | _, _ => none

/-- The machine created from an image: reset with the image's parameters, or created stopped when its configuration
is not supported (R104, R342, R442). -/
def State.ofImage (rom : Memory) : State :=
  match Cartridge.ofImage rom with
  | some cart => State.configure cart
  | none =>
    (State.configure { Cartridge.blank with rom := rom, cartType := rom.read 0x147 }).latchFatal
      (.unsupportedBankController (rom.read 0x147))

end Sys2Proof.Machine
end

