-- ==== Sys2Proof/Machine/Cycles.lean ====
section
/-! DEFINITION. The three cycle tables (spec 70_reset_and_hazards.md R460 to R462), row = high nibble, column =
low nibble, in machine cycles. A meaning states its own cost, as its rule in the spec does; that the cost every
instruction reports is its entry here is a statement (Obligations.CostIsTheTableEntry). -/

namespace Sys2Proof.Machine

/-- `MCYCLES_NOT_TAKEN`; no entry for the twelve fatal opcodes and the prefix (R460). -/
def notTakenRows : List (List (Option Nat)) :=
  [[some 1, some 3, some 2, some 2, some 1, some 1, some 2, some 1,
    some 5, some 2, some 2, some 2, some 1, some 1, some 2, some 1],
   [none, some 3, some 2, some 2, some 1, some 1, some 2, some 1,
    some 3, some 2, some 2, some 2, some 1, some 1, some 2, some 1],
   [some 2, some 3, some 2, some 2, some 1, some 1, some 2, some 1,
    some 2, some 2, some 2, some 2, some 1, some 1, some 2, some 1],
   [some 2, some 3, some 2, some 2, some 3, some 3, some 3, some 1,
    some 2, some 2, some 2, some 2, some 1, some 1, some 2, some 1],
   [some 1, some 1, some 1, some 1, some 1, some 1, some 2, some 1,
    some 1, some 1, some 1, some 1, some 1, some 1, some 2, some 1],
   [some 1, some 1, some 1, some 1, some 1, some 1, some 2, some 1,
    some 1, some 1, some 1, some 1, some 1, some 1, some 2, some 1],
   [some 1, some 1, some 1, some 1, some 1, some 1, some 2, some 1,
    some 1, some 1, some 1, some 1, some 1, some 1, some 2, some 1],
   [some 2, some 2, some 2, some 2, some 2, some 2, some 1, some 2,
    some 1, some 1, some 1, some 1, some 1, some 1, some 2, some 1],
   [some 1, some 1, some 1, some 1, some 1, some 1, some 2, some 1,
    some 1, some 1, some 1, some 1, some 1, some 1, some 2, some 1],
   [some 1, some 1, some 1, some 1, some 1, some 1, some 2, some 1,
    some 1, some 1, some 1, some 1, some 1, some 1, some 2, some 1],
   [some 1, some 1, some 1, some 1, some 1, some 1, some 2, some 1,
    some 1, some 1, some 1, some 1, some 1, some 1, some 2, some 1],
   [some 1, some 1, some 1, some 1, some 1, some 1, some 2, some 1,
    some 1, some 1, some 1, some 1, some 1, some 1, some 2, some 1],
   [some 2, some 3, some 3, some 4, some 3, some 4, some 2, some 4,
    some 2, some 4, some 3, none, some 3, some 6, some 2, some 4],
   [some 2, some 3, some 3, none, some 3, some 4, some 2, some 4,
    some 2, some 4, some 3, none, some 3, none, some 2, some 4],
   [some 3, some 3, some 2, none, none, some 4, some 2, some 4,
    some 4, some 1, some 4, none, none, none, some 2, some 4],
   [some 3, some 3, some 2, some 1, none, some 4, some 2, some 4,
    some 3, some 2, some 4, some 1, none, none, some 2, some 4]]

/-- `MCYCLES_TAKEN` (R461). -/
def takenRows : List (List (Option Nat)) :=
  [[some 1, some 3, some 2, some 2, some 1, some 1, some 2, some 1,
    some 5, some 2, some 2, some 2, some 1, some 1, some 2, some 1],
   [none, some 3, some 2, some 2, some 1, some 1, some 2, some 1,
    some 3, some 2, some 2, some 2, some 1, some 1, some 2, some 1],
   [some 3, some 3, some 2, some 2, some 1, some 1, some 2, some 1,
    some 3, some 2, some 2, some 2, some 1, some 1, some 2, some 1],
   [some 3, some 3, some 2, some 2, some 3, some 3, some 3, some 1,
    some 3, some 2, some 2, some 2, some 1, some 1, some 2, some 1],
   [some 1, some 1, some 1, some 1, some 1, some 1, some 2, some 1,
    some 1, some 1, some 1, some 1, some 1, some 1, some 2, some 1],
   [some 1, some 1, some 1, some 1, some 1, some 1, some 2, some 1,
    some 1, some 1, some 1, some 1, some 1, some 1, some 2, some 1],
   [some 1, some 1, some 1, some 1, some 1, some 1, some 2, some 1,
    some 1, some 1, some 1, some 1, some 1, some 1, some 2, some 1],
   [some 2, some 2, some 2, some 2, some 2, some 2, some 1, some 2,
    some 1, some 1, some 1, some 1, some 1, some 1, some 2, some 1],
   [some 1, some 1, some 1, some 1, some 1, some 1, some 2, some 1,
    some 1, some 1, some 1, some 1, some 1, some 1, some 2, some 1],
   [some 1, some 1, some 1, some 1, some 1, some 1, some 2, some 1,
    some 1, some 1, some 1, some 1, some 1, some 1, some 2, some 1],
   [some 1, some 1, some 1, some 1, some 1, some 1, some 2, some 1,
    some 1, some 1, some 1, some 1, some 1, some 1, some 2, some 1],
   [some 1, some 1, some 1, some 1, some 1, some 1, some 2, some 1,
    some 1, some 1, some 1, some 1, some 1, some 1, some 2, some 1],
   [some 5, some 3, some 4, some 4, some 6, some 4, some 2, some 4,
    some 5, some 4, some 4, none, some 6, some 6, some 2, some 4],
   [some 5, some 3, some 4, none, some 6, some 4, some 2, some 4,
    some 5, some 4, some 4, none, some 6, none, some 2, some 4],
   [some 3, some 3, some 2, none, none, some 4, some 2, some 4,
    some 4, some 1, some 4, none, none, none, some 2, some 4],
   [some 3, some 3, some 2, some 1, none, some 4, some 2, some 4,
    some 3, some 2, some 4, some 1, none, none, some 2, some 4]]

/-- `MCYCLES_CB`, by the second byte (R462). -/
def extendedRows : List (List Nat) :=
  [[2, 2, 2, 2, 2, 2, 4, 2, 2, 2, 2, 2, 2, 2, 4, 2],
   [2, 2, 2, 2, 2, 2, 4, 2, 2, 2, 2, 2, 2, 2, 4, 2],
   [2, 2, 2, 2, 2, 2, 4, 2, 2, 2, 2, 2, 2, 2, 4, 2],
   [2, 2, 2, 2, 2, 2, 4, 2, 2, 2, 2, 2, 2, 2, 4, 2],
   [2, 2, 2, 2, 2, 2, 3, 2, 2, 2, 2, 2, 2, 2, 3, 2],
   [2, 2, 2, 2, 2, 2, 3, 2, 2, 2, 2, 2, 2, 2, 3, 2],
   [2, 2, 2, 2, 2, 2, 3, 2, 2, 2, 2, 2, 2, 2, 3, 2],
   [2, 2, 2, 2, 2, 2, 3, 2, 2, 2, 2, 2, 2, 2, 3, 2],
   [2, 2, 2, 2, 2, 2, 4, 2, 2, 2, 2, 2, 2, 2, 4, 2],
   [2, 2, 2, 2, 2, 2, 4, 2, 2, 2, 2, 2, 2, 2, 4, 2],
   [2, 2, 2, 2, 2, 2, 4, 2, 2, 2, 2, 2, 2, 2, 4, 2],
   [2, 2, 2, 2, 2, 2, 4, 2, 2, 2, 2, 2, 2, 2, 4, 2],
   [2, 2, 2, 2, 2, 2, 4, 2, 2, 2, 2, 2, 2, 2, 4, 2],
   [2, 2, 2, 2, 2, 2, 4, 2, 2, 2, 2, 2, 2, 2, 4, 2],
   [2, 2, 2, 2, 2, 2, 4, 2, 2, 2, 2, 2, 2, 2, 4, 2],
   [2, 2, 2, 2, 2, 2, 4, 2, 2, 2, 2, 2, 2, 2, 4, 2]]

/-- `MCYCLES_NOT_TAKEN[op]` (R460). -/
def mcyclesNotTaken (op : Byte) : Option Nat := (notTakenRows.getD (op.toNat / 16) []).getD (op.toNat % 16) none

/-- `MCYCLES_TAKEN[op]` (R461). -/
def mcyclesTaken (op : Byte) : Option Nat := (takenRows.getD (op.toNat / 16) []).getD (op.toNat % 16) none

/-- `MCYCLES_CB[op2]` (R462). -/
def mcyclesExtended (op2 : Byte) : Nat := (extendedRows.getD (op2.toNat / 16) []).getD (op2.toNat % 16) 2

/-- The condition of a conditional transfer, by its first byte: `001cc000` (JR), `110cc000` (RET), `110cc010` (JP),
`110cc100` (CALL) (R153, R461); none for every other opcode. -/
def transferCond (op : Byte) : Option Cond :=
  if op &&& 0xE7 = 0x20 ∨ op &&& 0xE7 = 0xC0 ∨ op &&& 0xE7 = 0xC2 ∨ op &&& 0xE7 = 0xC4 then
    some (if op &&& 0x18 = 0x00 then .nz else if op &&& 0x18 = 0x08 then .z
      else if op &&& 0x18 = 0x10 then .nc else .c)
  else none

/-- The cost the tables give the instruction with bytes `b0 b1` when F is `f`: the extended entry behind the prefix,
the taken entry of a conditional transfer whose condition holds, otherwise the not-taken entry (R400, R460 to
R462). -/
def tableCost (b0 b1 : Byte) (f : Flags) : Option Nat :=
  if b0 = 0xCB then some (mcyclesExtended b1)
  else
    match transferCond b0 with
    | some cc => if f.cond cc then mcyclesTaken b0 else mcyclesNotTaken b0
    | none => mcyclesNotTaken b0

end Sys2Proof.Machine
end

