-- ==== Sys2Proof/Safety.lean ====
section
/-! DEFINITION. The terms the statements use: which bus writes the bank controller rejects, what a store may change
and what it leaves alone, the two shapes of an instruction's effect, and the invariant every step keeps. -/

namespace Sys2Proof.Safety

open Sys2Proof.Machine

/-- The ROM bank index a write of `v` to 0x2000 to 0x3FFF asks for, as a number (R101). -/
def lowCandidate (s : State) (v : Byte) : Nat :=
  32 * (s.mmu.romBank.toNat / 32) + (if v.toNat % 32 = 0 then 1 else v.toNat % 32)

/-- The ROM bank index a write of `v` to 0x4000 to 0x5FFF asks for in ROM-banking mode, as a number (R102). -/
def highCandidate (s : State) (v : Byte) : Nat := 32 * (v.toNat % 4) + s.mmu.romBank.toNat % 32

/-- The bank index a bus write of `v` to `a` is rejected with; none when the write is accepted (R101, R102, R105,
R343). -/
def rejectedBank (s : State) (a : Word) (v : Byte) : Option Nat :=
  if s.cart.banked = false then none
  else if 0x2000 ≤ a.toNat ∧ a.toNat ≤ 0x3FFF then
    if lowCandidate s v ≥ s.cart.romBanks then some (lowCandidate s v) else none
  else if 0x4000 ≤ a.toNat ∧ a.toNat ≤ 0x5FFF then
    if s.mmu.bankMode then
      if v.toNat % 4 ≥ max s.cart.ramBanks 1 then some (v.toNat % 4) else none
    else if highCandidate s v ≥ s.cart.romBanks then some (highCandidate s v) else none
  else none

/-- The bank index a two-byte bus write of `v` to `a` is rejected with: the low byte's, or else the high byte's in
the state the low byte leaves (R115, R346). -/
def rejectedBank16 (s : State) (a : Word) (v : Word) : Option Nat :=
  match rejectedBank s a (loByte v) with
  | some k => some k
  | none =>
    match memWrite s a (loByte v) with
    | .ok t => rejectedBank t (a + 1) (hiByte v)
    | .error _ => none

/-- A location that reads back the byte stored to it: memory, fitted and enabled external RAM, and the registers
of eight bits (R46 to R60, R81 to R96). -/
def keepsByte (s : State) (a : Word) : Bool :=
  match busRegion a with
  | .rom0 _ => false
  | .romBank _ => false
  | .vram _ => true
  | .eram _ => s.mmu.ramEnable && decide (s.cart.ramBanks > 0)
  | .wram _ => true
  | .oam _ => true
  | .unmapped => false
  | .io .p1 => false
  | .io .div => false
  | .io .tac => false
  | .io .irq => false
  | .io .stat => false
  | .io .ly => false
  | .io .unmapped => false
  | .io _ => true
  | .hram _ => true
  | .ie => false

/-- `a` is in the switchable ROM window or in the external RAM window (R85, R87). -/
def inBankWindow (a : Word) : Bool :=
  (decide (0x4000 ≤ a.toNat) && decide (a.toNat ≤ 0x7FFF)) || (decide (0xA000 ≤ a.toNat) && decide (a.toNat ≤ 0xBFFF))

/-- `a` is in the sprite table (R89). -/
def inSpriteTable (a : Word) : Bool := decide (0xFE00 ≤ a.toNat) && decide (a.toNat ≤ 0xFE9F)

/-- The addresses whose reading a store to `a` may change: the location itself under each of its addresses; the
two windows for a bank command; STAT beside LYC; the sprite table beside DMA; nothing where writes are dropped
(R81, R98, R107, R113). -/
def mayChange (a b : Word) : Bool :=
  match busRegion a with
  | .rom0 _ => inBankWindow b
  | .romBank _ => inBankWindow b
  | .unmapped => false
  | .io .unmapped => false
  | .io .ly => false
  | .io .lyc => decide (b = 0xFF45) || decide (b = 0xFF41)
  | .io .dma => decide (b = 0xFF46) || inSpriteTable b
  | r => decide (busRegion b = r)

/-- `a` is an address of the ROM range, where a write is a bank command (R99). -/
def isBankCommand (a : Word) : Bool := decide (a.toNat ≤ 0x7FFF)

/-- What stores to the addresses `stored` leave unchanged between `s` and `t`, the CPU aside: every byte that reads
elsewhere, and all the state no address reads. -/
structure KeptByStores (stored : List Word) (s t : State) : Prop where
  /-- Every byte a store does not concern reads as before. -/
  bytes : ∀ b, (∀ a ∈ stored, mayChange a b = false) → memRead t b = memRead s b
  /-- The ROM image and the cartridge parameters (R9, R99). -/
  cart : t.cart = s.cart
  /-- The host's side (R420, R427). -/
  host : t.host = s.host
  /-- The fatal latch (R44). -/
  stopped : t.stopped = s.stopped
  /-- The key groups (R402). -/
  keys : t.joypad.keysDir = s.joypad.keysDir ∧ t.joypad.keysAct = s.joypad.keysAct
  /-- The joypad's select latch, unless the store is to P1 (R46). -/
  select : (∀ a ∈ stored, a ≠ 0xFF00) → t.joypad.sel = s.joypad.sel
  /-- The phase machine and the frame buffer (R114). -/
  scan : t.ppu.phase = s.ppu.phase ∧ t.ppu.dot = s.ppu.dot ∧ t.ppu.line = s.ppu.line ∧ t.ppu.frame = s.ppu.frame
  /-- The delayed reload (R64, R385). -/
  overflow : t.timer.overflowPending = s.timer.overflowPending
  /-- The divider, unless the store is to DIV (R47). -/
  divider : (∀ a ∈ stored, a ≠ 0xFF04) → t.timer.div16 = s.timer.div16
  /-- The bank controller, unless the store is a bank command (R61). -/
  banks : (∀ a ∈ stored, isBankCommand a = false) →
    t.mmu.romBank = s.mmu.romBank ∧ t.mmu.ramBank = s.mmu.ramBank ∧ t.mmu.ramEnable = s.mmu.ramEnable ∧
      t.mmu.bankMode = s.mmu.bankMode
  /-- Every external RAM byte in every bank but the one a store goes to (R87). -/
  eram : ∀ k, (∀ a ∈ stored, ∀ off, busRegion a = .eram off → eramOffset s off ≠ k) →
    t.mmu.eram.read k = s.mmu.eram.read k

/-- Every offset a store lists is below `n`. -/
def offsetsBelow {α : Type} (n : Nat) (m : List (Nat × α)) : Bool := m.all fun e => decide (e.1 < n)

/-- Every memory is in its canonical form. -/
structure Canonical (s : State) : Prop where
  vram : s.ppu.vram.wf = true
  oam : s.ppu.oam.wf = true
  wram : s.mmu.wram.wf = true
  hram : s.mmu.hram.wf = true
  audio : s.mmu.audio.wf = true
  eram : s.mmu.eram.wf = true

/-- Every memory is inside the size R62 gives it. -/
structure Sized (s : State) : Prop where
  vram : offsetsBelow 0x2000 s.ppu.vram = true
  oam : offsetsBelow 0xA0 s.ppu.oam = true
  wram : offsetsBelow 0x2000 s.mmu.wram = true
  hram : offsetsBelow 0x7F s.mmu.hram = true
  audio : offsetsBelow 0x30 s.mmu.audio = true
  eram : offsetsBelow (s.cart.ramBanks * 0x2000) s.mmu.eram = true

/-- The instruction completes; the CPU becomes `c` and nothing else changes, no byte of memory either. -/
def CpuOnly (i : Instr) (s : State) (c : Cpu) : Prop :=
  exec i s = .next (s.withCpu c) ∧ ∀ b, memRead (s.withCpu c) b = memRead s b

/-- The instruction stores `v` to `a`: it completes when the bank controller accepts the write, the write is the bus
write, the CPU becomes `c`, what the store does not concern is kept, and the byte reads back where the location keeps
it (in a state whose memories are canonical, as every reachable state's are); it is fatal with the rejected index otherwise. -/
def StoresByte (i : Instr) (s : State) (a : Word) (v : Byte) (c : Cpu) : Prop :=
  (rejectedBank s a v = none →
    ∃ t, memWrite s a v = .ok t ∧ exec i s = .next (t.withCpu c) ∧ KeptByStores [a] s (t.withCpu c) ∧
      (Canonical s → keepsByte s a = true → memRead (t.withCpu c) a = v)) ∧
  (∀ k, rejectedBank s a v = some k → exec i s = .fault (.bankIndexOutOfRange k))

/-- The instruction stores the two bytes of `v` to `a` and `a + 1`, the low byte first: as `StoresByte`. Both bytes
read back where both locations keep them and are not one location. -/
def StoresWord (i : Instr) (s : State) (a v : Word) (c : Cpu) : Prop :=
  (rejectedBank16 s a v = none →
    ∃ t, memWrite16 s a v = .ok t ∧ exec i s = .next (t.withCpu c) ∧ KeptByStores [a, a + 1] s (t.withCpu c) ∧
      (Canonical s → keepsByte s a = true → mayChange (a + 1) a = false →
        memRead (t.withCpu c) a = loByte v) ∧
      (Canonical s → keepsByte s a = true → keepsByte s (a + 1) = true →
        memRead (t.withCpu c) (a + 1) = hiByte v)) ∧
  (∀ k, rejectedBank16 s a v = some k → exec i s = .fault (.bankIndexOutOfRange k))

/-- The bank indices are in range, and the low field of the ROM bank is never 0 (R101, R105). -/
structure BanksInv (s : State) : Prop where
  romLow : 1 ≤ s.mmu.romBank.toNat % 32
  romHigh : s.mmu.romBank.toNat < s.cart.romBanks
  ram : s.mmu.ramBank.toNat < max s.cart.ramBanks 1

/-- The phase machine is at a place of the frame: the line in its range, in vertical blank exactly from line 144 on,
the dot below the budget of the phase (R63, R404, R406). -/
structure ScanInv (p : Ppu) : Prop where
  line : p.line.toNat ≤ 153
  vblank : p.phase = .vblank ↔ 144 ≤ p.line.toNat
  dot : p.dot < phaseBudget p.phase

/-- The frame buffer is in canonical form and holds visible lines of 160 shades (R67). -/
structure FrameInv (f : Frame) : Prop where
  wf : f.wf = true
  lines : offsetsBelow Config.screenHeight f = true
  width : (f.all fun e => decide (e.2.length = Config.screenWidth)) = true

/-- The invariant. -/
structure Inv (s : State) : Prop where
  canonical : Canonical s
  sized : Sized s
  banks : BanksInv s
  scan : ScanInv s.ppu
  frame : FrameInv s.ppu.frame
  /-- The largest cost of a macro-step is 6 machine cycles (R463). -/
  cost : s.cpu.mcycles ≤ 6

/-- Where the phase machine is in its frame, in clock edges from the start of line 0 (R404 to R406). -/
def framePosition (p : Ppu) : Nat :=
  456 * p.line.toNat +
    (match p.phase with
      | .oamScan => p.dot
      | .vramScan => 80 + p.dot
      | .hblank => 252 + p.dot
      | .vblank => p.dot)

/-- Clock edges in a frame: 154 line slots of 456 (R406). -/
def frameEdges : Nat := 70224

/-- The first byte of a control transfer: every instruction of spec 45_control.md (R153). -/
def isTransferOpcode (op : Byte) : Bool :=
  (transferCond op).isSome || op = 0xC3 || op = 0x18 || op = 0xE9 || op = 0xCD || op = 0xC9 || op = 0xD9 ||
    decide (op &&& 0xC7 = 0xC7)

/-- A two-digit decimal number as a BCD byte. -/
def bcd (n : Nat) : Byte := BitVec.ofNat 8 (16 * (n / 10) + n % 10)

/-! The rules of the arithmetic families in numbers, apart from the bit-vector operations the meanings use. -/

/-- The end of an instruction that stays in line: PC past its `len` bytes, the cost `m` (R15). -/
def retired (k : Cpu) (len : Word) (m : Nat) : Cpu := { k with pc := k.pc + len, mcycles := m }

/-- ADD and ADC: A plus the operand plus the carry in, the four flags by R18 and R35. -/
def sumOf (k : Cpu) (v : Byte) (cin : Nat) : Cpu :=
  { k with
    a := BitVec.ofNat 8 (k.a.toNat + v.toNat + cin)
    f :=
      { z := decide ((k.a.toNat + v.toNat + cin) % 256 = 0), n := false,
        h := decide (k.a.toNat % 16 + v.toNat % 16 + cin > 15),
        c := decide (k.a.toNat + v.toNat + cin > 255) } }

/-- The flags of SUB, SBC and CP (R18, R35). -/
def differenceFlags (a v cin : Nat) : Flags :=
  { z := decide ((a + 512 - v - cin) % 256 = 0), n := true, h := decide (a % 16 < v % 16 + cin),
    c := decide (a < v + cin) }

/-- SUB and SBC: A minus the operand minus the borrow in. -/
def differenceOf (k : Cpu) (v : Byte) (cin : Nat) : Cpu :=
  { k with
    a := BitVec.ofInt 8 ((k.a.toNat : Int) - v.toNat - cin)
    f := differenceFlags k.a.toNat v.toNat cin }

/-- AND, XOR, OR: the result `r` in A, Z from it, N and C cleared, H as given (R233, R236, R239). -/
def logicOf (k : Cpu) (r : Byte) (h : Bool) : Cpu :=
  { k with a := r, f := { z := decide (r = 0), n := false, h := h, c := false } }

/-- DAA (R249): the adjusted A and the flags, in numbers. -/
def decimalAdjusted (k : Cpu) : Cpu :=
  let a := k.a.toNat
  let low := if k.f.h = true ∨ k.f.n = false ∧ a % 16 > 9 then 0x06 else 0x00
  let high := if k.f.c = true ∨ k.f.n = false ∧ a > 0x99 then 0x60 else 0x00
  let r := if k.f.n then (a + 512 - low - high) % 256 else (a + low + high) % 256
  { k with
    a := BitVec.ofNat 8 r
    f := { z := decide (r = 0), n := k.f.n, h := false, c := decide (high = 0x60) } }

/-- A row of the rotate and shift table of R270, in numbers: the result, and the bit shifted out. -/
def rotated (op : RotOp) (v c : Nat) : Nat × Bool :=
  match op with
  | .rlc => ((2 * v + v / 128) % 256, decide (v ≥ 128))
  | .rrc => (v / 2 + 128 * (v % 2), decide (v % 2 = 1))
  | .rl => ((2 * v + c) % 256, decide (v ≥ 128))
  | .rr => (v / 2 + 128 * c, decide (v % 2 = 1))
  | .sla => (2 * v % 256, decide (v ≥ 128))
  | .sra => (v / 2 + 128 * (v / 128), decide (v % 2 = 1))
  | .swap => (16 * (v % 16) + v / 16, false)
  | .srl => (v / 2, decide (v % 2 = 1))

/-- The byte and the flags of an extended rotate or shift of `v` (R270). -/
def rotatedByte (op : RotOp) (v : Byte) (c : Bool) : Byte := BitVec.ofNat 8 (rotated op v.toNat c.toNat).1

/-- The flags beside `rotatedByte`. -/
def rotatedFlags (op : RotOp) (v : Byte) (c : Bool) : Flags :=
  { z := decide ((rotated op v.toNat c.toNat).1 = 0), n := false, h := false, c := (rotated op v.toNat c.toNat).2 }

/-- Bit `b` of a byte, as a number. -/
def bitOf (v : Byte) (b : Fin 8) : Nat := v.toNat / 2 ^ b.val % 2

/-- RES: the byte without bit `b` (R293). -/
def withoutBit (v : Byte) (b : Fin 8) : Byte := BitVec.ofNat 8 (v.toNat - bitOf v b * 2 ^ b.val)

/-- SET: the byte with bit `b` (R295). -/
def withBit (v : Byte) (b : Fin 8) : Byte := BitVec.ofNat 8 (v.toNat + (1 - bitOf v b) * 2 ^ b.val)

/-- A word moved by a signed byte, modulo 2^16 (R148). -/
def displaced (w : Word) (n : Byte) : Word := BitVec.ofInt 16 ((w.toNat : Int) + n.toInt)

/-- The condition of a conditional transfer (R300). -/
def conditionHolds (cc : Cond) (f : Flags) : Prop :=
  match cc with
  | .nz => f.z = false
  | .z => f.z = true
  | .nc => f.c = false
  | .c => f.c = true

/-- The word on top of the stack: the low byte at SP, the high byte above it (R16). -/
def stackTop (s : State) : Word := joinBytes (memRead s (s.cpu.sp + 1)) (memRead s s.cpu.sp)

/-- The counter increments a timer advance of `e` clock edges makes: the multiples of the divisor crossed (R382,
R383). -/
def timerTicks (t : Timer) (e : Nat) : Nat :=
  let d := match t.tac.toNat % 4 with
    | 0 => 1024
    | 1 => 16
    | 2 => 64
    | _ => 256
  if t.tac.toNat ≥ 4 then (t.div16.toNat + e) / d - t.div16.toNat / d else 0

/-- Whether a key is up after a list of transitions, given whether it was up before (R427). -/
def upAfter (key : Key) (evs : List KeyEvent) (up : Bool) : Bool :=
  evs.foldl (fun u e => if e.key = key then !e.pressed else u) up

end Sys2Proof.Safety
end

