-- ==== Sys2Proof/Certificates/Slice0/Obligations.lean ====
section
/-! DEFINITION. The statements for the provers. -/

section Statements

open Sys2Proof Sys2Proof.Machine Sys2Proof.Safety

/-- Decode and encode agree: no operand bit is dropped, and the decoder consumes exactly the instruction. -/
def Obligations.DecodeInvertsEncode : Prop :=
  ∀ (i : Instr) (rest : List Byte), i.wellFormed = true → decode (encode i ++ rest) = .ok (i, rest)

/-- The other direction: the decoder is total on the bytes it has, and each word has one meaning. -/
def Obligations.EncodeInvertsDecode : Prop :=
  (∀ b0 b1 b2 : Byte, b0 ≠ 0x10 → encode (decodeBytes b0 b1 b2) = [b0, b1, b2].take (opLength b0)) ∧
  (∀ b1 b2 : Byte, decodeBytes 0x10 b1 b2 = .stop) ∧
  (∀ b0 b1 b2 : Byte, (decodeBytes b0 b1 b2).wellFormed = true) ∧
  (∀ b2 : Byte, decodeBytes 0xCB 0xCB b2 = .set_1_E) ∧
  decode [] = .error .noBytes ∧
  ∀ (op : Byte) (rest : List Byte),
    (rest.length + 1 < opLength op → decode (op :: rest) = .error (.truncated op)) ∧
    (opLength op ≤ rest.length + 1 → ∃ i, decode (op :: rest) = .ok (i, rest.drop (opLength op - 1)))

/-- A sanity statement: the words are the spec's (R152 to R154 and the worked examples of the instruction rules). -/
def Obligations.SpecWordsDecode : Prop :=
  decode [0b00000000] = .ok (.nop, []) ∧
  decode [0b00000110, 0x7F] = .ok (.ld_B_n 0x7F, []) ∧
  decode [0b01111000] = .ok (.ld_A_B, []) ∧
  decode [0b00100010] = .ok (.ld_atHLi_A, []) ∧
  decode [0b00100001, 0x00, 0xC0] = .ok (.ld_HL_nn 0xC000, []) ∧
  decode [0b11110101] = .ok (.push_AF, []) ∧
  decode [0b10000110] = .ok (.add_A_atHL, []) ∧
  decode [0b00110100] = .ok (.inc_atHL, []) ∧
  decode [0b00111001] = .ok (.add_HL_SP, []) ∧
  decode [0b00011111] = .ok (.rra, []) ∧
  decode [0b11001011, 0b00110111] = .ok (.swap_A, []) ∧
  decode [0b11001011, 0b01111110] = .ok (.bit_7_atHL, []) ∧
  decode [0b11001011, 0b10000110] = .ok (.res_0_atHL, []) ∧
  decode [0b11001011, 0b11011111] = .ok (.set_3_A, []) ∧
  decode [0b11000011, 0x50, 0x01] = .ok (.jp_nn 0x0150, []) ∧
  decode [0b00100000, 0xFC] = .ok (.jr_NZ_e 0xFC, []) ∧
  decode [0b11011100, 0x34, 0x12] = .ok (.call_C_nn 0x1234, []) ∧
  decode [0b11101111] = .ok (.rst_28, []) ∧
  decode [0b11011001] = .ok (.reti, []) ∧
  decode [0b01110110] = .ok (.halt, []) ∧
  decode [0b11111011] = .ok (.ei, []) ∧
  decode [0b00010000, 0x00] = .ok (.stop, []) ∧
  decode [0b11010011] = .ok (.reserved_D3, [])

/-- What the step adds around exec, in full. -/
def Obligations.StepRunsTheDecodedInstruction : Prop :=
  ∀ (s : State) (i : Instr) (rest : List Byte), s.stopped = none → s.cpu.halted = false →
    decode [memRead s s.cpu.pc, memRead s (s.cpu.pc + 1), memRead s (s.cpu.pc + 2)] = .ok (i, rest) →
    (∀ t u, exec i s = .next t →
      interruptEvaluation (timerAdvance (ppuAdvance t (4 * t.cpu.mcycles)) (4 * t.cpu.mcycles)) = .ok u →
      step s = .next (hostDrain u)) ∧
    (∀ t f, exec i s = .next t →
      interruptEvaluation (timerAdvance (ppuAdvance t (4 * t.cpu.mcycles)) (4 * t.cpu.mcycles)) = .error f →
      step s = .fault f) ∧
    ∀ f, exec i s = .fault f → step s = .fault f

/-- The table of R440. Most values are decisions of the spec (D4 to D10), see notes/assumptions/6.md. -/
def Obligations.ResetState : Prop :=
  ∀ cart : Cartridge, cart.cartType = 0x00 ∨ cart.cartType = 0x01 ∨ cart.cartType = 0x02 ∨ cart.cartType = 0x03 →
    let s := State.configure cart
    (s.cpu.a = 0x01 ∧ s.cpu.f.toByte = 0xB0 ∧ s.cpu.bc = 0x0013 ∧ s.cpu.de = 0x00D8 ∧ s.cpu.hl = 0x014D) ∧
    (s.cpu.sp = 0xFFFE ∧ s.cpu.pc = 0x0100 ∧ s.cpu.ime = false ∧ s.cpu.halted = false ∧ s.stopped = none) ∧
    (s.mmu.ie = 0 ∧ s.mmu.irq = 0 ∧ s.mmu.romBank = 1 ∧ s.mmu.ramBank = 0 ∧ s.mmu.ramEnable = false ∧
      s.mmu.bankMode = false) ∧
    (s.timer.div16 = 0 ∧ s.timer.tima = 0 ∧ s.timer.tma = 0 ∧ s.timer.tac = 0 ∧ s.timer.overflowPending = false) ∧
    (s.ppu.phase = .oamScan ∧ s.ppu.dot = 0 ∧ s.ppu.line = 0 ∧ s.ppu.lcdc = 0x91 ∧ memRead s 0xFF41 = 0x06 ∧
      s.ppu.scy = 0 ∧ s.ppu.scx = 0 ∧ s.ppu.lyc = 0 ∧ s.ppu.dma = 0 ∧ s.ppu.bgp = 0xFC ∧ s.ppu.obp0 = 0xFF ∧
      s.ppu.obp1 = 0xFF ∧ s.ppu.wy = 0 ∧ s.ppu.wx = 0) ∧
    (s.joypad.sel = 0b11 ∧ s.joypad.keysDir = 0xF ∧ s.joypad.keysAct = 0xF ∧ s.mmu.sb = 0 ∧ s.mmu.sc = 0) ∧
    (∀ k, s.mmu.wram.read k = 0 ∧ s.mmu.hram.read k = 0 ∧ s.mmu.eram.read k = 0 ∧ s.ppu.vram.read k = 0 ∧
      s.ppu.oam.read k = 0 ∧ s.mmu.audio.read k = 0) ∧
    (∀ ly x, s.ppu.frame.pixel ly x = 0) ∧ s.cart = cart ∧ State.reset = State.configure Cartridge.blank

/-- R340 and R342: the state after a fatal condition is the state before the macro-step, latched. -/
def Obligations.StoppedMachine : Prop :=
  (∀ (s : State) (f : Fault), s.stopped = none → step s = .fault f →
      stateAfter s = { s with stopped := some f } ∧ step (stateAfter s) = .fault f) ∧
    (∀ (s : State) (f : Fault), s.stopped = some f → step s = .fault f ∧ stateAfter s = s) ∧
    ∀ cart : Cartridge, cart.cartType ≠ 0x00 → cart.cartType ≠ 0x01 → cart.cartType ≠ 0x02 → cart.cartType ≠ 0x03 →
      (State.configure cart).stopped = some (.unsupportedBankController cart.cartType)

/-- The base case of the invariant. -/
def Obligations.InvariantAtReset : Prop :=
  (∀ cart : Cartridge, cart.romBanks ≥ 2 → Inv (State.configure cart)) ∧ Inv State.reset

/-- The machine's own promises, kept by every step from every state that meets them. -/
def Obligations.StepKeepsInvariant : Prop :=
  ∀ s t : State, Inv s → step s = .next t → Inv t

/-- R171 and R172, with the frame. -/
def Obligations.LoadRegister : Prop :=
  ∀ (dst src : Reg) (n : Byte) (s : State),
    CpuOnly (Instr.ldRegReg dst src) s (retired (s.cpu.setReg dst (s.cpu.reg src)) 1 1) ∧
    CpuOnly (Instr.ldRegImm dst n) s (retired (s.cpu.setReg dst n) 2 2)

/-- The loads of 40_load8.md that read memory, with the frame. -/
def Obligations.LoadFromMemory : Prop :=
  ∀ (dst : Reg) (n : Byte) (nn : Word) (s : State),
    CpuOnly (Instr.ldRegMem dst) s (retired (s.cpu.setReg dst (memRead s s.cpu.hl)) 1 2) ∧
    CpuOnly .ld_A_atBC s (retired { s.cpu with a := memRead s s.cpu.bc } 1 2) ∧
    CpuOnly .ld_A_atDE s (retired { s.cpu with a := memRead s s.cpu.de } 1 2) ∧
    CpuOnly (.ld_A_atnn nn) s (retired { s.cpu with a := memRead s nn } 3 4) ∧
    CpuOnly .ldh_A_atC s (retired { s.cpu with a := memRead s (0xFF00 + s.cpu.c.setWidth 16) } 1 2) ∧
    CpuOnly (.ldh_A_atn n) s (retired { s.cpu with a := memRead s (0xFF00 + n.setWidth 16) } 2 3) ∧
    CpuOnly .ld_A_atHLi s (retired (Cpu.setHl { s.cpu with a := memRead s s.cpu.hl } (s.cpu.hl + 1)) 1 2) ∧
    CpuOnly .ld_A_atHLd s (retired (Cpu.setHl { s.cpu with a := memRead s s.cpu.hl } (s.cpu.hl - 1)) 1 2)

/-- The stores of 40_load8.md, with the frame (StoresByte says it). -/
def Obligations.StoreByteForms : Prop :=
  ∀ (src : Reg) (n : Byte) (nn : Word) (s : State),
    StoresByte (Instr.ldMemReg src) s s.cpu.hl (s.cpu.reg src) (retired s.cpu 1 2) ∧
    StoresByte (.ld_atHL_n n) s s.cpu.hl n (retired s.cpu 2 3) ∧
    StoresByte .ld_atBC_A s s.cpu.bc s.cpu.a (retired s.cpu 1 2) ∧
    StoresByte .ld_atDE_A s s.cpu.de s.cpu.a (retired s.cpu 1 2) ∧
    StoresByte (.ld_atnn_A nn) s nn s.cpu.a (retired s.cpu 3 4) ∧
    StoresByte .ldh_atC_A s (0xFF00 + s.cpu.c.setWidth 16) s.cpu.a (retired s.cpu 1 2) ∧
    StoresByte (.ldh_atn_A n) s (0xFF00 + n.setWidth 16) s.cpu.a (retired s.cpu 2 3) ∧
    StoresByte .ld_atHLi_A s s.cpu.hl s.cpu.a (retired (s.cpu.setHl (s.cpu.hl + 1)) 1 2) ∧
    StoresByte .ld_atHLd_A s s.cpu.hl s.cpu.a (retired (s.cpu.setHl (s.cpu.hl - 1)) 1 2) ∧
    ∀ v : Byte, rejectedBank s (0xFF00 + n.setWidth 16) v = none

/-- R201 and R203, with the frame. -/
def Obligations.LoadPair : Prop :=
  ∀ (p : Pair) (nn : Word) (s : State),
    CpuOnly (Instr.ldPairImm p nn) s (retired (s.cpu.setPair p nn) 3 3) ∧
    CpuOnly .ld_SP_HL s (retired { s.cpu with sp := s.cpu.hl } 1 2)

/-- The 16-bit sums; the flag rules are the spec's decision D37. -/
def Obligations.SixteenBitSums : Prop :=
  ∀ (p : Pair) (n : Byte) (s : State),
    let b := (s.cpu.pair p).toNat
    let hl := s.cpu.hl.toNat
    let low := s.cpu.sp.toNat % 256
    let spFlags : Flags :=
      { z := false, n := false, h := decide (low % 16 + n.toNat % 16 > 15), c := decide (low + n.toNat > 255) }
    let hlFlags : Flags :=
      { z := s.cpu.f.z, n := false, h := decide (hl % 4096 + b % 4096 > 4095), c := decide (hl + b > 65535) }
    CpuOnly (Instr.addHl p) s (retired (Cpu.setHl { s.cpu with f := hlFlags } (BitVec.ofNat 16 (hl + b))) 1 2) ∧
    CpuOnly (.add_SP_e n) s (retired { s.cpu with sp := displaced s.cpu.sp n, f := spFlags } 2 4) ∧
    CpuOnly (.ld_HL_SPe n) s (retired (Cpu.setHl { s.cpu with f := spFlags } (displaced s.cpu.sp n)) 2 3)

/-- R202, with the frame (StoresWord says it). -/
def Obligations.StoreStackPointer : Prop :=
  ∀ (nn : Word) (s : State), StoresWord (.ld_atnn_SP nn) s nn s.cpu.sp (retired s.cpu 3 5)

/-- R205; that PUSH and POP are inverses is PushThenPop. -/
def Obligations.PushStoresThePair : Prop :=
  ∀ (p : StackPair) (s : State),
    StoresWord (Instr.push p) s (s.cpu.sp - 2) (s.cpu.stackPair p)
      (retired { s.cpu with sp := s.cpu.sp - 2 } 1 4) ∧
    loByte (s.cpu.stackPair .af) &&& 0x0F = 0 ∧ hiByte (s.cpu.stackPair .af) = s.cpu.a

/-- R206, with the frame. -/
def Obligations.PopLoadsThePair : Prop :=
  ∀ s : State,
    let lo := memRead s s.cpu.sp
    let hi := memRead s (s.cpu.sp + 1)
    let k : Cpu := { s.cpu with sp := s.cpu.sp + 2 }
    let f : Flags := { z := lo.getLsbD 7, n := lo.getLsbD 6, h := lo.getLsbD 5, c := lo.getLsbD 4 }
    CpuOnly .pop_BC s (retired { k with b := hi, c := lo } 1 3) ∧
    CpuOnly .pop_DE s (retired { k with d := hi, e := lo } 1 3) ∧
    CpuOnly .pop_HL s (retired { k with h := hi, l := lo } 1 3) ∧
    CpuOnly .pop_AF s (retired { k with a := hi, f := f } 1 3) ∧ f.toByte = lo &&& 0xF0

/-- "PUSH/POP are symmetric inverses for any register pair", provided the two stack bytes are ordinary RAM (R205). -/
def Obligations.PushThenPop : Prop :=
  ∀ (p : StackPair) (s : State), Canonical s → keepsByte s (s.cpu.sp - 2) = true →
    keepsByte s (s.cpu.sp - 2 + 1) = true → mayChange (s.cpu.sp - 2 + 1) (s.cpu.sp - 2) = false →
    ∃ t u, exec (Instr.push p) s = .next t ∧ exec (Instr.pop p) t = .next u ∧
      u.cpu = { s.cpu with pc := s.cpu.pc + 2, mcycles := 3 }

/-- The ADD and ADC rows of R220 in numbers. -/
def Obligations.AddAndAddWithCarry : Prop :=
  ∀ (r : Reg) (n : Byte) (s : State),
    CpuOnly (Instr.aluReg .add r) s (retired (sumOf s.cpu (s.cpu.reg r) 0) 1 1) ∧
    CpuOnly (Instr.aluMem .add) s (retired (sumOf s.cpu (memRead s s.cpu.hl) 0) 1 2) ∧
    CpuOnly (Instr.aluImm .add n) s (retired (sumOf s.cpu n 0) 2 2) ∧
    CpuOnly (Instr.aluReg .adc r) s (retired (sumOf s.cpu (s.cpu.reg r) s.cpu.f.c.toNat) 1 1) ∧
    CpuOnly (Instr.aluMem .adc) s (retired (sumOf s.cpu (memRead s s.cpu.hl) s.cpu.f.c.toNat) 1 2) ∧
    CpuOnly (Instr.aluImm .adc n) s (retired (sumOf s.cpu n s.cpu.f.c.toNat) 2 2)

/-- The SUB and SBC rows of R220 in numbers. -/
def Obligations.SubtractAndSubtractWithCarry : Prop :=
  ∀ (r : Reg) (n : Byte) (s : State),
    CpuOnly (Instr.aluReg .sub r) s (retired (differenceOf s.cpu (s.cpu.reg r) 0) 1 1) ∧
    CpuOnly (Instr.aluMem .sub) s (retired (differenceOf s.cpu (memRead s s.cpu.hl) 0) 1 2) ∧
    CpuOnly (Instr.aluImm .sub n) s (retired (differenceOf s.cpu n 0) 2 2) ∧
    CpuOnly (Instr.aluReg .sbc r) s (retired (differenceOf s.cpu (s.cpu.reg r) s.cpu.f.c.toNat) 1 1) ∧
    CpuOnly (Instr.aluMem .sbc) s (retired (differenceOf s.cpu (memRead s s.cpu.hl) s.cpu.f.c.toNat) 1 2) ∧
    CpuOnly (Instr.aluImm .sbc n) s (retired (differenceOf s.cpu n s.cpu.f.c.toNat) 2 2)

/-- R233 to R241, with the frame. -/
def Obligations.LogicOperations : Prop :=
  ∀ (r : Reg) (n : Byte) (s : State),
    CpuOnly (Instr.aluReg .and r) s (retired (logicOf s.cpu (s.cpu.a &&& (s.cpu.reg r)) true) 1 1) ∧
    CpuOnly (Instr.aluMem .and) s (retired (logicOf s.cpu (s.cpu.a &&& (memRead s s.cpu.hl)) true) 1 2) ∧
    CpuOnly (Instr.aluImm .and n) s (retired (logicOf s.cpu (s.cpu.a &&& n) true) 2 2) ∧
    CpuOnly (Instr.aluReg .xor r) s (retired (logicOf s.cpu (s.cpu.a ^^^ (s.cpu.reg r)) false) 1 1) ∧
    CpuOnly (Instr.aluMem .xor) s (retired (logicOf s.cpu (s.cpu.a ^^^ (memRead s s.cpu.hl)) false) 1 2) ∧
    CpuOnly (Instr.aluImm .xor n) s (retired (logicOf s.cpu (s.cpu.a ^^^ n) false) 2 2) ∧
    CpuOnly (Instr.aluReg .or r) s (retired (logicOf s.cpu (s.cpu.a ||| (s.cpu.reg r)) false) 1 1) ∧
    CpuOnly (Instr.aluMem .or) s (retired (logicOf s.cpu (s.cpu.a ||| (memRead s s.cpu.hl)) false) 1 2) ∧
    CpuOnly (Instr.aluImm .or n) s (retired (logicOf s.cpu (s.cpu.a ||| n) false) 2 2)

/-- R242 to R244, with the frame. -/
def Obligations.Compare : Prop :=
  ∀ (r : Reg) (n : Byte) (s : State),
    let compared (v : Byte) : Cpu := { s.cpu with f := differenceFlags s.cpu.a.toNat v.toNat 0 }
    CpuOnly (Instr.aluReg .cp r) s (retired (compared (s.cpu.reg r)) 1 1) ∧
    CpuOnly (Instr.aluMem .cp) s (retired (compared (memRead s s.cpu.hl)) 1 2) ∧
    CpuOnly (Instr.aluImm .cp n) s (retired (compared n) 2 2) ∧
    ∀ v : Byte, (differenceFlags s.cpu.a.toNat v.toNat 0).z = decide (s.cpu.a = v) ∧
      (differenceFlags s.cpu.a.toNat v.toNat 0).c = decide (s.cpu.a.toNat < v.toNat)

/-- R245 and R247 in numbers. -/
def Obligations.IncrementDecrementRegister : Prop :=
  ∀ (r : Reg) (s : State),
    let v := (s.cpu.reg r).toNat
    let up : Flags := { z := decide (v = 255), n := false, h := decide (v % 16 = 15), c := s.cpu.f.c }
    let down : Flags := { z := decide (v = 1), n := true, h := decide (v % 16 = 0), c := s.cpu.f.c }
    CpuOnly (Instr.incReg r) s (retired (Cpu.setReg { s.cpu with f := up } r (BitVec.ofNat 8 (v + 1))) 1 1) ∧
    CpuOnly (Instr.decReg r) s (retired (Cpu.setReg { s.cpu with f := down } r (BitVec.ofNat 8 (v + 255))) 1 1)

/-- R246 and R248, with the frame (StoresByte says it). -/
def Obligations.IncrementDecrementMemory : Prop :=
  ∀ s : State,
    let v := (memRead s s.cpu.hl).toNat
    let up : Flags := { z := decide (v = 255), n := false, h := decide (v % 16 = 15), c := s.cpu.f.c }
    let down : Flags := { z := decide (v = 1), n := true, h := decide (v % 16 = 0), c := s.cpu.f.c }
    StoresByte .inc_atHL s s.cpu.hl (BitVec.ofNat 8 (v + 1)) (retired { s.cpu with f := up } 1 3) ∧
    StoresByte .dec_atHL s s.cpu.hl (BitVec.ofNat 8 (v + 255)) (retired { s.cpu with f := down } 1 3)

/-- R249 in numbers. -/
def Obligations.DecimalAdjust : Prop :=
  ∀ s : State, CpuOnly .daa s (retired (decimalAdjusted s.cpu) 1 1)

/-- What DAA is for: it follows from R224, R230 and R249 together, and a wrong flag in any of them refutes it. -/
def Obligations.DecimalArithmetic : Prop :=
  ∀ (s : State) (x y : Nat), x < 100 → y < 100 → s.cpu.a = bcd x → s.cpu.b = bcd y →
    (∃ t u, exec .adc_A_B s = .next t ∧ exec .daa t = .next u ∧
      u.cpu.a = bcd ((x + y + s.cpu.f.c.toNat) % 100) ∧ u.cpu.f.c = decide (x + y + s.cpu.f.c.toNat ≥ 100)) ∧
    ∃ t u, exec .sbc_A_B s = .next t ∧ exec .daa t = .next u ∧
      u.cpu.a = bcd ((x + 200 - y - s.cpu.f.c.toNat) % 100) ∧ u.cpu.f.c = decide (x < y + s.cpu.f.c.toNat)

/-- R250 to R252, with the frame. -/
def Obligations.ComplementAndCarry : Prop :=
  ∀ s : State,
    let z := s.cpu.f.z
    let c := s.cpu.f.c
    CpuOnly .cpl s (retired { s.cpu with a := ~~~s.cpu.a, f := { z := z, n := true, h := true, c := c } } 1 1) ∧
    CpuOnly .scf s (retired { s.cpu with f := { z := z, n := false, h := false, c := true } } 1 1) ∧
    CpuOnly .ccf s (retired { s.cpu with f := { z := z, n := false, h := false, c := !c } } 1 1)

/-- R262 and R263, with the frame. -/
def Obligations.IncrementDecrementPair : Prop :=
  ∀ (p : Pair) (s : State),
    CpuOnly (Instr.incPair p) s (retired (s.cpu.setPair p (BitVec.ofNat 16 ((s.cpu.pair p).toNat + 1))) 1 2) ∧
    CpuOnly (Instr.decPair p) s (retired (s.cpu.setPair p (BitVec.ofNat 16 ((s.cpu.pair p).toNat + 65535))) 1 2)

/-- R271 to R274 in numbers. -/
def Obligations.AccumulatorRotates : Prop :=
  ∀ s : State,
    let after (op : RotOp) : Cpu :=
      retired
        { s.cpu with
          a := rotatedByte op s.cpu.a s.cpu.f.c
          f := { rotatedFlags op s.cpu.a s.cpu.f.c with z := false } } 1 1
    CpuOnly .rlca s (after .rlc) ∧ CpuOnly .rrca s (after .rrc) ∧ CpuOnly .rla s (after .rl) ∧
    CpuOnly .rra s (after .rr)

/-- The register rows of R270 in numbers. -/
def Obligations.RotateRegister : Prop :=
  ∀ (op : RotOp) (r : Reg) (s : State),
    CpuOnly (Instr.rotReg op r) s
      (retired (Cpu.setReg { s.cpu with f := rotatedFlags op (s.cpu.reg r) s.cpu.f.c } r
        (rotatedByte op (s.cpu.reg r) s.cpu.f.c)) 2 2)

/-- The memory rows of R270 in numbers (StoresByte says the frame). -/
def Obligations.RotateMemory : Prop :=
  ∀ (op : RotOp) (s : State),
    StoresByte (Instr.rotMem op) s s.cpu.hl (rotatedByte op (memRead s s.cpu.hl) s.cpu.f.c)
      (retired { s.cpu with f := rotatedFlags op (memRead s s.cpu.hl) s.cpu.f.c } 2 4)

/-- R291 and R292 in numbers. -/
def Obligations.BitTest : Prop :=
  ∀ (b : Fin 8) (r : Reg) (s : State),
    let tested (v : Byte) : Flags := { z := decide (bitOf v b = 0), n := false, h := true, c := s.cpu.f.c }
    CpuOnly (Instr.bitReg b r) s (retired { s.cpu with f := tested (s.cpu.reg r) } 2 2) ∧
    CpuOnly (Instr.bitMem b) s (retired { s.cpu with f := tested (memRead s s.cpu.hl) } 2 3)

/-- R293 and R295 in numbers. -/
def Obligations.ResetSetRegister : Prop :=
  ∀ (b : Fin 8) (r : Reg) (s : State),
    CpuOnly (Instr.resReg b r) s (retired (s.cpu.setReg r (withoutBit (s.cpu.reg r) b)) 2 2) ∧
    CpuOnly (Instr.setReg b r) s (retired (s.cpu.setReg r (withBit (s.cpu.reg r) b)) 2 2)

/-- R294 and R296 in numbers (StoresByte says the frame). -/
def Obligations.ResetSetMemory : Prop :=
  ∀ (b : Fin 8) (s : State),
    StoresByte (Instr.resMem b) s s.cpu.hl (withoutBit (memRead s s.cpu.hl) b) (retired s.cpu 2 4) ∧
    StoresByte (Instr.setMem b) s s.cpu.hl (withBit (memRead s s.cpu.hl) b) (retired s.cpu 2 4)

/-- R301, R303 and R304, with the frame. -/
def Obligations.Jumps : Prop :=
  ∀ (n : Byte) (nn : Word) (s : State),
    CpuOnly (.jp_nn nn) s { s.cpu with pc := nn, mcycles := 4 } ∧
    CpuOnly .jp_HL s { s.cpu with pc := s.cpu.hl, mcycles := 1 } ∧
    CpuOnly (.jr_e n) s { s.cpu with pc := displaced (s.cpu.pc + 2) n, mcycles := 3 }

/-- R302 and R305, both outcomes. -/
def Obligations.ConditionalJumps : Prop :=
  ∀ (cc : Cond) (n : Byte) (nn : Word) (s : State),
    (conditionHolds cc s.cpu.f →
      CpuOnly (Instr.jpCond cc nn) s { s.cpu with pc := nn, mcycles := 4 } ∧
      CpuOnly (Instr.jrCond cc n) s { s.cpu with pc := displaced (s.cpu.pc + 2) n, mcycles := 3 }) ∧
    (¬ conditionHolds cc s.cpu.f →
      CpuOnly (Instr.jpCond cc nn) s { s.cpu with pc := s.cpu.pc + 3, mcycles := 3 } ∧
      CpuOnly (Instr.jrCond cc n) s { s.cpu with pc := s.cpu.pc + 2, mcycles := 2 })

/-- R306, R307 and R313 (StoresWord says the frame). -/
def Obligations.Calls : Prop :=
  ∀ (cc : Cond) (r : Fin 8) (nn : Word) (s : State),
    StoresWord (.call_nn nn) s (s.cpu.sp - 2) (s.cpu.pc + 3)
      { s.cpu with sp := s.cpu.sp - 2, pc := nn, mcycles := 6 } ∧
    StoresWord (Instr.rst r) s (s.cpu.sp - 2) (s.cpu.pc + 1)
      { s.cpu with sp := s.cpu.sp - 2, pc := BitVec.ofNat 16 (8 * r.val), mcycles := 4 } ∧
    (conditionHolds cc s.cpu.f →
      StoresWord (Instr.callCond cc nn) s (s.cpu.sp - 2) (s.cpu.pc + 3)
        { s.cpu with sp := s.cpu.sp - 2, pc := nn, mcycles := 6 }) ∧
    (¬ conditionHolds cc s.cpu.f → CpuOnly (Instr.callCond cc nn) s { s.cpu with pc := s.cpu.pc + 3, mcycles := 3 })

/-- R308 and R309, with the frame. -/
def Obligations.Returns : Prop :=
  ∀ (cc : Cond) (s : State),
    CpuOnly .ret s { s.cpu with sp := s.cpu.sp + 2, pc := stackTop s, mcycles := 4 } ∧
    (conditionHolds cc s.cpu.f →
      CpuOnly (Instr.retCond cc) s { s.cpu with sp := s.cpu.sp + 2, pc := stackTop s, mcycles := 5 }) ∧
    (¬ conditionHolds cc s.cpu.f → CpuOnly (Instr.retCond cc) s { s.cpu with pc := s.cpu.pc + 1, mcycles := 2 })

/-- "CALL decrements the stack pointer by 2 and stores the post-CALL return address at the new stack pointer; RET reverses this exactly". -/
def Obligations.CallThenReturn : Prop :=
  ∀ (r : Fin 8) (nn : Word) (s : State), Canonical s → keepsByte s (s.cpu.sp - 2) = true →
    keepsByte s (s.cpu.sp - 2 + 1) = true → mayChange (s.cpu.sp - 2 + 1) (s.cpu.sp - 2) = false →
    (∃ t u, exec (.call_nn nn) s = .next t ∧ exec .ret t = .next u ∧
      u.cpu = { s.cpu with pc := s.cpu.pc + 3, mcycles := 4 }) ∧
    (∃ t u, exec (Instr.rst r) s = .next t ∧ exec .ret t = .next u ∧
      u.cpu = { s.cpu with pc := s.cpu.pc + 1, mcycles := 4 }) ∧
    ∃ t u, exec (.call_nn nn) s = .next t ∧ exec .reti t = .next u ∧
      u.cpu = { s.cpu with pc := s.cpu.pc + 3, mcycles := 4, ime := true }

/-- The five system instructions that run; their timing is the spec's decisions D32 and D34. -/
def Obligations.SystemInstructions : Prop :=
  ∀ s : State,
    CpuOnly .nop s (retired s.cpu 1 1) ∧
    CpuOnly .halt s (retired { s.cpu with halted := true } 1 1) ∧
    CpuOnly .di s (retired { s.cpu with ime := false } 1 1) ∧
    CpuOnly .ei s (retired { s.cpu with ime := true } 1 1) ∧
    CpuOnly .reti s { s.cpu with sp := s.cpu.sp + 2, pc := stackTop s, ime := true, mcycles := 4 }

/-- The spec's own stops; the conclusion is the stop. -/
def Obligations.ReservedAndStopAreFatal : Prop :=
  ∀ s : State,
    (∀ op : Byte, op ∈ ([0xD3, 0xDB, 0xDD, 0xE3, 0xE4, 0xEB, 0xEC, 0xED, 0xF4, 0xFC, 0xFD, 0x10] : List Byte) →
      (∀ (b1 b2 : Byte), exec (decodeBytes op b1 b2) s = .fault (.reservedOpcode op)) ∧
      (s.stopped = none → s.cpu.halted = false → memRead s s.cpu.pc = op → step s = .fault (.reservedOpcode op))) ∧
    ∀ (op b1 b2 x : Byte), op ∉ ([0xD3, 0xDB, 0xDD, 0xE3, 0xE4, 0xEB, 0xEC, 0xED, 0xF4, 0xFC, 0xFD, 0x10] : List Byte) →
      exec (decodeBytes op b1 b2) s ≠ .fault (.reservedOpcode x)

/-- R326: the prefix and the second byte form one instruction. The lone prefix row is the model's constructor (log entry 8). -/
def Obligations.PrefixRunsTheExtendedInstruction : Prop :=
  ∀ s : State,
    exec .prefix_CB s = exec (decodeExt (memRead s (s.cpu.pc + 1))) s ∧
    (s.cpu.hl.toNat < 0x2000 ∨ 0x5FFF < s.cpu.hl.toNat ∨ s.cart.banked = false →
      ∃ t, exec .prefix_CB s = .next t ∧ t.cpu.pc = s.cpu.pc + 2)

/-- R99 to R103, and the window R87 gives what they switch; the ranges and fields are the spec's decisions D13, D14 and D15. -/
def Obligations.BankCommands : Prop :=
  ∀ (s : State) (a : Word) (v : Byte),
    (∀ f, memWrite s a v = .error f ↔ ∃ k, f = .bankIndexOutOfRange k ∧ rejectedBank s a v = some k) ∧
    (a.toNat ≤ 0x7FFF → s.cart.cartType = 0x00 → memWrite s a v = .ok s) ∧
    (s.cart.banked = true → a.toNat ≤ 0x1FFF →
      memWrite s a v = .ok { s with mmu := { s.mmu with ramEnable := decide (v.toNat % 16 = 0xA) } }) ∧
    (s.cart.banked = true → 0x2000 ≤ a.toNat → a.toNat ≤ 0x3FFF → lowCandidate s v < s.cart.romBanks →
      memWrite s a v = .ok { s with mmu := { s.mmu with romBank := BitVec.ofNat 7 (lowCandidate s v) } }) ∧
    (s.cart.banked = true → 0x4000 ≤ a.toNat → a.toNat ≤ 0x5FFF → s.mmu.bankMode = false →
      highCandidate s v < s.cart.romBanks →
      memWrite s a v = .ok { s with mmu := { s.mmu with romBank := BitVec.ofNat 7 (highCandidate s v) } }) ∧
    (s.cart.banked = true → 0x4000 ≤ a.toNat → a.toNat ≤ 0x5FFF → s.mmu.bankMode = true →
      v.toNat % 4 < max s.cart.ramBanks 1 →
      memWrite s a v = .ok { s with mmu := { s.mmu with ramBank := BitVec.ofNat 2 (v.toNat % 4) } }) ∧
    (s.cart.banked = true → 0x6000 ≤ a.toNat → a.toNat ≤ 0x7FFF →
      memWrite s a v = .ok { s with mmu := { s.mmu with bankMode := decide (v.toNat % 2 = 1) } }) ∧
    ∀ k < 0x2000,
      memRead s (BitVec.ofNat 16 (0xA000 + k)) =
        (if s.mmu.ramEnable = true ∧ s.cart.ramBanks > 0 then s.mmu.eram.read (s.mmu.ramBank.toNat * 0x2000 + k)
        else 0x00) ∧
      memWrite s (BitVec.ofNat 16 (0xA000 + k)) v =
        .ok
          (if s.mmu.ramEnable = true ∧ s.cart.ramBanks > 0 then
            { s with mmu := { s.mmu with eram := s.mmu.eram.write (s.mmu.ramBank.toNat * 0x2000 + k) v } }
          else s)

/-- "Writing bank index n (1 <= n < bank count) to the ROM-bank-select range makes bank n visible in the switchable window; writing 0 selects bank 1" (R85), within the five bits of the field. -/
def Obligations.RomBankWindow : Prop :=
  ∀ (s : State) (a : Word) (n : Byte), s.cart.banked = true → s.cart.romBanks ≥ 2 → s.mmu.romBank.toNat < 32 →
    0x2000 ≤ a.toNat → a.toNat ≤ 0x3FFF → n.toNat < 32 → n.toNat < s.cart.romBanks →
    ∃ t, memWrite s a n = .ok t ∧
      (∀ k < 0x4000, memRead t (BitVec.ofNat 16 (0x4000 + k)) =
        s.cart.rom.read ((if n = 0 then 1 else n.toNat) * 0x4000 + k)) ∧
      ∀ k < 0x4000, memRead s (BitVec.ofNat 16 k) = s.cart.rom.read k ∧
        memRead t (BitVec.ofNat 16 k) = s.cart.rom.read k

/-- "No write ever changes a ROM byte"; "the active ROM bank never changes" (R99). -/
def Obligations.RomNeverChanges : Prop :=
  ∀ s t : State, step s = .next t → t.cart = s.cart ∧
    (s.cart.cartType = 0x00 → t.mmu.romBank = s.mmu.romBank ∧ t.mmu.ramBank = s.mmu.ramBank ∧
      t.mmu.ramEnable = s.mmu.ramEnable ∧ t.mmu.bankMode = s.mmu.bankMode)

/-- R46 to R60 and R90 to R96, a register a clause; DMA is SpriteTableCopy. The clause under ScanInv is what software reads while the PPU runs (R410). -/
def Obligations.RegisterWrites : Prop :=
  ∀ (s : State) (v : Byte),
    (memRead s 0xFF01 = s.mmu.sb ∧ memWrite s 0xFF01 v = .ok { s with mmu := { s.mmu with sb := v } }) ∧
    (memRead s 0xFF02 = s.mmu.sc ∧ memWrite s 0xFF02 v = .ok { s with mmu := { s.mmu with sc := v } }) ∧
    ((memRead s 0xFF04).toNat = s.timer.div16.toNat / 256 ∧
      memWrite s 0xFF04 v = .ok { s with timer := { s.timer with div16 := 0 } }) ∧
    (memRead s 0xFF05 = s.timer.tima ∧ memWrite s 0xFF05 v = .ok { s with timer := { s.timer with tima := v } }) ∧
    (memRead s 0xFF06 = s.timer.tma ∧ memWrite s 0xFF06 v = .ok { s with timer := { s.timer with tma := v } }) ∧
    ((memRead s 0xFF07).toNat = s.timer.tac.toNat ∧
      memWrite s 0xFF07 v = .ok { s with timer := { s.timer with tac := BitVec.ofNat 3 v.toNat } }) ∧
    ((memRead s 0xFF0F).toNat = s.mmu.irq.toNat ∧
      memWrite s 0xFF0F v = .ok { s with mmu := { s.mmu with irq := BitVec.ofNat 5 v.toNat } }) ∧
    ((memRead s 0xFFFF).toNat = s.mmu.ie.toNat ∧
      memWrite s 0xFFFF v = .ok { s with mmu := { s.mmu with ie := BitVec.ofNat 5 v.toNat } }) ∧
    (∀ k < 0x30, memRead s (BitVec.ofNat 16 (0xFF10 + k)) = s.mmu.audio.read k ∧
      memWrite s (BitVec.ofNat 16 (0xFF10 + k)) v =
        .ok { s with mmu := { s.mmu with audio := s.mmu.audio.write k v } }) ∧
    (memRead s 0xFF40 = s.ppu.lcdc ∧ memWrite s 0xFF40 v = .ok { s with ppu := { s.ppu with lcdc := v } }) ∧
    (memRead s 0xFF42 = s.ppu.scy ∧ memWrite s 0xFF42 v = .ok { s with ppu := { s.ppu with scy := v } }) ∧
    (memRead s 0xFF43 = s.ppu.scx ∧ memWrite s 0xFF43 v = .ok { s with ppu := { s.ppu with scx := v } }) ∧
    (memRead s 0xFF44 = s.ppu.line ∧ memWrite s 0xFF44 v = .ok s) ∧
    (memRead s 0xFF45 = s.ppu.lyc ∧ memWrite s 0xFF45 v = .ok { s with ppu := { s.ppu with lyc := v } }) ∧
    (memRead s 0xFF47 = s.ppu.bgp ∧ memWrite s 0xFF47 v = .ok { s with ppu := { s.ppu with bgp := v } }) ∧
    (memRead s 0xFF48 = s.ppu.obp0 ∧ memWrite s 0xFF48 v = .ok { s with ppu := { s.ppu with obp0 := v } }) ∧
    (memRead s 0xFF49 = s.ppu.obp1 ∧ memWrite s 0xFF49 v = .ok { s with ppu := { s.ppu with obp1 := v } }) ∧
    (memRead s 0xFF4A = s.ppu.wy ∧ memWrite s 0xFF4A v = .ok { s with ppu := { s.ppu with wy := v } }) ∧
    (memRead s 0xFF4B = s.ppu.wx ∧ memWrite s 0xFF4B v = .ok { s with ppu := { s.ppu with wx := v } }) ∧
    (memRead s 0xFF41 =
        BitVec.ofNat 8
          (8 * s.ppu.statEn.toNat + (if s.ppu.line = s.ppu.lyc then 4 else 0) +
            (match s.ppu.phase with
              | .hblank => 0
              | .vblank => 1
              | .oamScan => 2
              | .vramScan => 3)) ∧
      memWrite s 0xFF41 v = .ok { s with ppu := { s.ppu with statEn := BitVec.ofNat 4 (v.toNat / 8) } }) ∧
    (ScanInv s.ppu →
      (memRead s 0xFF44).toNat = framePosition s.ppu / 456 ∧
      (memRead s 0xFF41).toNat % 4 =
        (if 144 * 456 ≤ framePosition s.ppu then 1
        else if framePosition s.ppu % 456 < 80 then 2
        else if framePosition s.ppu % 456 < 80 + 172 then 3
        else 0)) ∧
    (∀ a : Word, (0xFEA0 ≤ a.toNat ∧ a.toNat ≤ 0xFEFF) ∨ a = 0xFF03 ∨ (0xFF08 ≤ a.toNat ∧ a.toNat ≤ 0xFF0E) ∨
      (0xFF4C ≤ a.toNat ∧ a.toNat ≤ 0xFF7F) → memWrite s a v = .ok s ∧ memRead s a = 0xFF) ∧
    ∃ t, memWrite s 0xFF00 v = .ok t ∧
      t = { s with joypad := { s.joypad with sel := BitVec.ofNat 2 (v.toNat / 16) } } ∧
      (v &&& 0x30 = 0x10 → memRead t 0xFF00 = s.joypad.keysAct.setWidth 8) ∧
      (v &&& 0x30 = 0x20 → memRead t 0xFF00 = s.joypad.keysDir.setWidth 8) ∧
      (v &&& 0x30 = 0x00 ∨ v &&& 0x30 = 0x30 → memRead t 0xFF00 = 0x0F)

/-- R88: two addresses, one byte, and the last 0x200 bytes without an echo. R86, R89 and R92: the arrays of the other windows; the renderer's use of them is ScanlineRender and SpriteOverlay. -/
def Obligations.EchoOfWorkingRam : Prop :=
  ∀ (s : State) (v : Byte),
    (∀ k < 0x2000, memRead s (BitVec.ofNat 16 (0xC000 + k)) = s.mmu.wram.read k ∧
      memWrite s (BitVec.ofNat 16 (0xC000 + k)) v = .ok { s with mmu := { s.mmu with wram := s.mmu.wram.write k v } }) ∧
    (∀ k < 0x1E00, memRead s (BitVec.ofNat 16 (0xE000 + k)) = memRead s (BitVec.ofNat 16 (0xC000 + k)) ∧
      memWrite s (BitVec.ofNat 16 (0xE000 + k)) v = memWrite s (BitVec.ofNat 16 (0xC000 + k)) v) ∧
    (∀ a b : Word, 0xDE00 ≤ a.toNat → a.toNat ≤ 0xDFFF → b ≠ a → ∀ t, memWrite s a v = .ok t →
      memRead t b = memRead s b) ∧
    (∀ k < 0x2000, memRead s (BitVec.ofNat 16 (0x8000 + k)) = s.ppu.vram.read k ∧
      memWrite s (BitVec.ofNat 16 (0x8000 + k)) v = .ok { s with ppu := { s.ppu with vram := s.ppu.vram.write k v } }) ∧
    (∀ k < 0xA0, memRead s (BitVec.ofNat 16 (0xFE00 + k)) = s.ppu.oam.read k ∧
      memWrite s (BitVec.ofNat 16 (0xFE00 + k)) v = .ok { s with ppu := { s.ppu with oam := s.ppu.oam.write k v } }) ∧
    ∀ k < 0x7F, memRead s (BitVec.ofNat 16 (0xFF80 + k)) = s.mmu.hram.read k ∧
      memWrite s (BitVec.ofNat 16 (0xFF80 + k)) v = .ok { s with mmu := { s.mmu with hram := s.mmu.hram.write k v } }

/-- R98, every source page included: the sprite table itself and the register page too. -/
def Obligations.SpriteTableCopy : Prop :=
  ∀ (s : State) (v : Byte), Canonical s →
    ∃ t, memWrite s 0xFF46 v = .ok t ∧ memRead t 0xFF46 = v ∧
      (∀ i < 160, memRead t (BitVec.ofNat 16 (0xFE00 + i)) =
        memRead { s with ppu := { s.ppu with dma := v } } (joinBytes v (BitVec.ofNat 8 i))) ∧
      t = { s with ppu := { s.ppu with dma := v, oam := t.ppu.oam } }

/-- R360 to R362: what taking an interrupt saves, what it changes and where it goes. -/
def Obligations.InterruptDispatch : Prop :=
  ∀ s : State,
    (s.mmu.ie &&& s.mmu.irq = 0 → interruptEvaluation s = .ok s) ∧
    (s.mmu.ie &&& s.mmu.irq ≠ 0 → s.cpu.ime = false →
      interruptEvaluation s = .ok (s.withCpu { s.cpu with halted := false })) ∧
    ∀ i : Fin 5, (s.mmu.ie &&& s.mmu.irq).getLsbD i.val = true →
      (∀ j < i, (s.mmu.ie &&& s.mmu.irq).getLsbD j.val = false) → s.cpu.ime = true →
      let s1 : State := { s with mmu := { s.mmu with irq := s.mmu.irq &&& ~~~((1 : BitVec 5) <<< i.val) } }
      let k : Cpu :=
        { s.cpu with
          halted := false
          ime := false
          sp := s.cpu.sp - 2
          pc := BitVec.ofNat 16 (0x40 + 8 * i.val) }
      (rejectedBank16 s1 (s.cpu.sp - 2) s.cpu.pc = none →
        ∃ t, memWrite16 s1 (s.cpu.sp - 2) s.cpu.pc = .ok t ∧ interruptEvaluation s = .ok (t.withCpu k) ∧
          KeptByStores [s.cpu.sp - 2, s.cpu.sp - 2 + 1] s1 (t.withCpu k)) ∧
      ∀ n, rejectedBank16 s1 (s.cpu.sp - 2) s.cpu.pc = some n →
        interruptEvaluation s = .error (.bankIndexOutOfRange n)

/-- R401 and the HALT part of R322. -/
def Obligations.HaltedStep : Prop :=
  ∀ s : State, s.stopped = none → s.cpu.halted = true →
    let q := (timerAdvance (ppuAdvance s 4) 4).withCpu { s.cpu with mcycles := 1 }
    (q.mmu.ie &&& q.mmu.irq = 0 → step s = .next (hostDrain q)) ∧
    (q.mmu.ie &&& q.mmu.irq ≠ 0 → s.cpu.ime = false →
      step s = .next (hostDrain (q.withCpu { s.cpu with mcycles := 1, halted := false }))) ∧
    (q.mmu.ie &&& q.mmu.irq ≠ 0 → s.cpu.ime = true →
      (∃ u, interruptEvaluation q = .ok u ∧ step s = .next (hostDrain u) ∧ u.cpu.halted = false ∧
        u.cpu.ime = false ∧ u.cpu.sp = s.cpu.sp - 2) ∨
      ∃ n, step s = .fault (.bankIndexOutOfRange n))

/-- A rule over all instructions, from R41 and R357; dispatch and the wake are InterruptDispatch. -/
def Obligations.MasterEnableWriters : Prop :=
  ∀ (i : Instr) (s t : State), exec i s = .next t →
    (i ≠ .ei → i ≠ .di → i ≠ .reti → t.cpu.ime = s.cpu.ime) ∧ (i ≠ .halt → t.cpu.halted = s.cpu.halted)

/-- The peripherals change bus-visible state only during their own advance (R114), the keys only in the host drain (R402). -/
def Obligations.InstructionsKeepTheRest : Prop :=
  ∀ (i : Instr) (s t : State), exec i s = .next t →
    t.cart = s.cart ∧ t.host = s.host ∧ t.stopped = s.stopped ∧ t.joypad.keysDir = s.joypad.keysDir ∧
    t.joypad.keysAct = s.joypad.keysAct ∧ t.ppu.phase = s.ppu.phase ∧ t.ppu.dot = s.ppu.dot ∧
    t.ppu.line = s.ppu.line ∧ t.ppu.frame = s.ppu.frame ∧ t.timer.overflowPending = s.timer.overflowPending

/-- The tables of R460 to R462, typed in from the spec, against the cost each rule states. -/
def Obligations.CostIsTheTableEntry : Prop :=
  ∀ (b0 b1 b2 : Byte) (s t : State), exec (decodeBytes b0 b1 b2) s = .next t →
    tableCost b0 b1 s.cpu.f = some t.cpu.mcycles

/-- "For a non-branching opcode at PC=P, after one step PC' = P + opcode_length(opcode)" (R39). -/
def Obligations.ProgramCounterAdvances : Prop :=
  ∀ (b0 b1 b2 : Byte) (s t : State), isTransferOpcode b0 = false → exec (decodeBytes b0 b1 b2) s = .next t →
    t.cpu.pc = s.cpu.pc + BitVec.ofNat 16 (opLength b0)

/-- R382, for every cost, with the increments counted and not iterated. -/
def Obligations.TimerAdvances : Prop :=
  ∀ (s : State) (e : Nat),
    let t := s.timer
    let base := if t.overflowPending then t.tma else t.tima
    let k := timerTicks t e
    timerAdvance s e =
      { s with
        timer :=
          { div16 := BitVec.ofNat 16 (t.div16.toNat + e)
            tima := BitVec.ofNat 8 (base.toNat + k)
            tma := t.tma
            tac := t.tac
            overflowPending := decide (base.toNat + k ≥ 256) }
        mmu := if t.overflowPending then { s.mmu with irq := s.mmu.irq ||| 0b00100 } else s.mmu }

/-- R404 to R407 and R420 over every state of the phase machine. -/
def Obligations.PpuKeepsTime : Prop :=
  ∀ (s : State) (e : Nat), ScanInv s.ppu → e ≤ 24 →
    let t := ppuAdvance s e
    ScanInv t.ppu ∧ framePosition t.ppu = (framePosition s.ppu + e) % frameEdges ∧
    (framePosition s.ppu < 144 * 456 → 144 * 456 ≤ framePosition s.ppu + e →
      t.mmu.irq.getLsbD 0 = true ∧ t.host.presented = some t.ppu.frame) ∧
    (¬ (framePosition s.ppu < 144 * 456 ∧ 144 * 456 ≤ framePosition s.ppu + e) →
      t.mmu.irq.getLsbD 0 = s.mmu.irq.getLsbD 0 ∧ t.host.presented = s.host.presented)

/-- R408, each condition gated by its own enable bit, and the request it makes (R351, R353). -/
def Obligations.LcdStatusRequests : Prop :=
  ∀ (s : State) (e : Nat), ScanInv s.ppu → e ≤ 24 →
    let p := s.ppu
    let t := ppuAdvance s e
    let made :=
      (p.phase = .vramScan ∧ t.ppu.phase = .hblank ∧ p.statEn.getLsbD 0 = true) ∨
      (p.phase = .hblank ∧ t.ppu.phase = .vblank ∧ p.statEn.getLsbD 1 = true) ∨
      (p.phase ≠ .oamScan ∧ t.ppu.phase = .oamScan ∧ p.statEn.getLsbD 2 = true) ∨
      (t.ppu.line ≠ p.line ∧ t.ppu.line = p.lyc ∧ p.statEn.getLsbD 3 = true)
    t.ppu = (p.advance e).1 ∧ ((p.advance e).2.lcdStatus = true ↔ made) ∧
    (made → t.mmu.irq.getLsbD 1 = true) ∧
    (¬ made → t.mmu.irq.getLsbD 1 = s.mmu.irq.getLsbD 1) ∧
    (∀ b, 2 ≤ b → t.mmu.irq.getLsbD b = s.mmu.irq.getLsbD b) ∧
    t =
      { s with
        ppu := t.ppu
        mmu := { s.mmu with irq := t.mmu.irq }
        host := { s.host with presented := t.host.presented } }

/-- R404 and R412 over the advance, R413 with the background's address arithmetic written out in bytes. The pixel with sprites on is SpriteOverlay. -/
def Obligations.ScanlineRender : Prop :=
  ∀ p : Ppu,
    (p.frame.wf = true →
      ((∀ x < 160, (p.enterHblank.1.frame.pixel p.line.toNat x) = pixelShade p p.line.toNat x) ∧
        (∀ ly x, ly ≠ p.line.toNat → p.enterHblank.1.frame.pixel ly x = p.frame.pixel ly x) ∧
        p.enterHblank.1 = { p with dot := p.dot - 172, phase := .hblank, frame := p.enterHblank.1.frame }) ∧
      ∀ e, p.phase = .vramScan → 172 ≤ p.dot + e → p.dot + e < 172 + 204 →
        let q := (p.advance e).1
        (∀ x < 160, q.frame.pixel p.line.toNat x = pixelShade p p.line.toNat x) ∧
        (∀ ly x, ly ≠ p.line.toNat → q.frame.pixel ly x = p.frame.pixel ly x) ∧
        q = { p with dot := p.dot + e - 172, phase := .hblank, frame := q.frame }) ∧
    (∀ e, ScanInv p → e ≤ 24 → ¬ (p.phase = .vramScan ∧ 172 ≤ p.dot + e) → (p.advance e).1.frame = p.frame) ∧
    ∀ ly x,
      (p.lcdc.getLsbD 1 = false → pixelShade p ly x = bgShade p ly x) ∧
      (p.lcdc.getLsbD 0 = false → bgIndex p ly x = 0 ∧ bgShade p ly x = 0) ∧
      (p.lcdc.getLsbD 0 = true →
        let yy := (ly + p.scy.toNat) % 256
        let xx := (x + p.scx.toNat) % 256
        let map := if p.lcdc.getLsbD 3 then 0x1C00 else 0x1800
        let ti := p.vram.read (map + 32 * (yy / 8) + xx / 8)
        let tile := if p.lcdc.getLsbD 4 ∨ ti.toNat ≥ 128 then ti.toNat else 256 + ti.toNat
        let row := 16 * tile + 2 * (yy % 8)
        let idx := (p.vram.read row).toNat / 2 ^ (7 - xx % 8) % 2 +
          2 * ((p.vram.read (row + 1)).toNat / 2 ^ (7 - xx % 8) % 2)
        bgIndex p ly x = BitVec.ofNat 2 idx ∧ bgShade p ly x = BitVec.ofNat 2 (p.bgp.toNat / 4 ^ idx % 4))

/-- R414: all 40 sprites are considered, later ones over earlier ones; R66, R414 and R416 for the pixel of one descriptor, in bytes. -/
def Obligations.SpriteOverlay : Prop :=
  ∀ (p : Ppu) (ly x : Nat),
    (p.lcdc.getLsbD 1 = true → (∀ i < 40, spriteShade p (spriteAt p.oam i) ly x = none) →
      pixelShade p ly x = bgShade p ly x) ∧
    (∀ i < 40, ∀ shade, p.lcdc.getLsbD 1 = true → spriteShade p (spriteAt p.oam i) ly x = some shade →
      (∀ j, i < j → j < 40 → spriteShade p (spriteAt p.oam j) ly x = none) → pixelShade p ly x = shade) ∧
    ∀ i < 40,
      let y := (p.oam.read (4 * i)).toNat
      let left := (p.oam.read (4 * i + 1)).toNat
      let ti := (p.oam.read (4 * i + 2)).toNat
      let attr := (p.oam.read (4 * i + 3)).toNat
      let tall := p.lcdc.toNat / 4 % 2 = 1
      let h := if tall then 16 else 8
      let flipY := attr / 64 % 2 = 1
      let flipX := attr / 32 % 2 = 1
      let r := if flipY then h - 1 - (ly + 16 - y) else ly + 16 - y
      let cc := if flipX then 7 - (x + 8 - left) else x + 8 - left
      let tile := if tall then 2 * (ti / 2) + r / 8 else ti
      let row := 16 * tile + 2 * (r % 8)
      let idx := (p.vram.read row).toNat / 2 ^ (7 - cc) % 2 + 2 * ((p.vram.read (row + 1)).toNat / 2 ^ (7 - cc) % 2)
      let inside := y ≤ ly + 16 ∧ ly + 16 < y + h ∧ left ≤ x + 8 ∧ x + 8 < left + 8
      spriteAt p.oam i =
        { y := (y : Int) - 16
          x := (left : Int) - 8
          tile := p.oam.read (4 * i + 2)
          behind := decide (attr / 128 = 1)
          flipY := decide flipY
          flipX := decide flipX
          obp1 := decide (attr / 16 % 2 = 1) } ∧
      spriteIndex p (spriteAt p.oam i) ly x = (if inside then some (BitVec.ofNat 2 idx) else none) ∧
      ∀ shade, spriteShade p (spriteAt p.oam i) ly x = some shade ↔
        inside ∧ idx ≠ 0 ∧ (attr / 128 = 1 → bgIndex p ly x = 0) ∧
          shade = BitVec.ofNat 2 ((if attr / 16 % 2 = 1 then p.obp1 else p.obp0).toNat / 4 ^ idx % 4)

/-- R409 and R415: no window layer, no off state. -/
def Obligations.UnusedVideoBits : Prop :=
  ∀ (p : Ppu) (lcdc wy wx : Byte), (∀ b < 5, lcdc.getLsbD b = p.lcdc.getLsbD b) →
    (∀ ly x, pixelShade { p with lcdc := lcdc, wy := wy, wx := wx } ly x = pixelShade p ly x) ∧
    ∀ e, (Ppu.advance { p with lcdc := lcdc, wy := wy, wx := wx } e).2 = (p.advance e).2 ∧
      (Ppu.advance { p with lcdc := lcdc, wy := wy, wx := wx } e).1 =
        { (p.advance e).1 with lcdc := lcdc, wy := wy, wx := wx }

/-- R427, over every list of transitions. -/
def Obligations.HostDrainAppliesKeys : Prop :=
  ∀ s : State,
    (s.host.keyStream = [] → hostDrain s = s) ∧
    ∀ evs rest, s.host.keyStream = evs :: rest →
      let pressed := ∃ pre e post, evs = pre ++ e :: post ∧ e.pressed = true ∧
        upAfter e.key pre (s.joypad.keyUp e.key) = true
      (∀ key, (hostDrain s).joypad.keyUp key = upAfter key evs (s.joypad.keyUp key)) ∧
      (hostDrain s).joypad.sel = s.joypad.sel ∧
      (pressed → (hostDrain s).mmu = { s.mmu with irq := s.mmu.irq ||| 0b10000 }) ∧
      (¬ pressed → (hostDrain s).mmu = s.mmu) ∧
      (hostDrain s).cpu = s.cpu ∧ (hostDrain s).timer = s.timer ∧ (hostDrain s).ppu = s.ppu ∧
      (hostDrain s).cart = s.cart ∧ (hostDrain s).stopped = s.stopped ∧
      (hostDrain s).host = { s.host with keyStream := rest }

end Statements
end

