-- ==== Sys2Proof/Laws/State.lean ====
section
/-! SUPPORT. One lemma for each field and each update of the state, true by unfolding, so that no later proof unfolds
a record update. -/

namespace Sys2Proof.Laws

open Sys2Proof.Machine

@[simp] theorem state_withCpu_cpu (s : State) (k : Cpu) : (s.withCpu k).cpu = k := rfl
@[simp] theorem state_withCpu_mmu (s : State) (k : Cpu) : (s.withCpu k).mmu = s.mmu := rfl
@[simp] theorem state_withCpu_timer (s : State) (k : Cpu) : (s.withCpu k).timer = s.timer := rfl
@[simp] theorem state_withCpu_ppu (s : State) (k : Cpu) : (s.withCpu k).ppu = s.ppu := rfl
@[simp] theorem state_withCpu_joypad (s : State) (k : Cpu) : (s.withCpu k).joypad = s.joypad := rfl
@[simp] theorem state_withCpu_cart (s : State) (k : Cpu) : (s.withCpu k).cart = s.cart := rfl
@[simp] theorem state_withCpu_host (s : State) (k : Cpu) : (s.withCpu k).host = s.host := rfl
@[simp] theorem state_withCpu_stopped (s : State) (k : Cpu) : (s.withCpu k).stopped = s.stopped := rfl

@[simp] theorem state_request_cpu (s : State) (i : IrqSource) : (s.request i).cpu = s.cpu := rfl
@[simp] theorem state_request_mmu (s : State) (i : IrqSource) : (s.request i).mmu = { s.mmu with irq := s.mmu.irq ||| i.mask } := rfl
@[simp] theorem state_request_timer (s : State) (i : IrqSource) : (s.request i).timer = s.timer := rfl
@[simp] theorem state_request_ppu (s : State) (i : IrqSource) : (s.request i).ppu = s.ppu := rfl
@[simp] theorem state_request_joypad (s : State) (i : IrqSource) : (s.request i).joypad = s.joypad := rfl
@[simp] theorem state_request_cart (s : State) (i : IrqSource) : (s.request i).cart = s.cart := rfl
@[simp] theorem state_request_host (s : State) (i : IrqSource) : (s.request i).host = s.host := rfl
@[simp] theorem state_request_stopped (s : State) (i : IrqSource) : (s.request i).stopped = s.stopped := rfl

@[simp] theorem state_latchFatal_cpu (s : State) (x : Fault) : (s.latchFatal x).cpu = s.cpu := rfl
@[simp] theorem state_latchFatal_mmu (s : State) (x : Fault) : (s.latchFatal x).mmu = s.mmu := rfl
@[simp] theorem state_latchFatal_timer (s : State) (x : Fault) : (s.latchFatal x).timer = s.timer := rfl
@[simp] theorem state_latchFatal_ppu (s : State) (x : Fault) : (s.latchFatal x).ppu = s.ppu := rfl
@[simp] theorem state_latchFatal_joypad (s : State) (x : Fault) : (s.latchFatal x).joypad = s.joypad := rfl
@[simp] theorem state_latchFatal_cart (s : State) (x : Fault) : (s.latchFatal x).cart = s.cart := rfl
@[simp] theorem state_latchFatal_host (s : State) (x : Fault) : (s.latchFatal x).host = s.host := rfl
@[simp] theorem state_latchFatal_stopped (s : State) (x : Fault) : (s.latchFatal x).stopped = some x := rfl

@[simp] theorem cpu_retire_a (s : Cpu) (len : Word) (m : Nat) : (s.retire len m).a = s.a := rfl
@[simp] theorem cpu_retire_f (s : Cpu) (len : Word) (m : Nat) : (s.retire len m).f = s.f := rfl
@[simp] theorem cpu_retire_b (s : Cpu) (len : Word) (m : Nat) : (s.retire len m).b = s.b := rfl
@[simp] theorem cpu_retire_c (s : Cpu) (len : Word) (m : Nat) : (s.retire len m).c = s.c := rfl
@[simp] theorem cpu_retire_d (s : Cpu) (len : Word) (m : Nat) : (s.retire len m).d = s.d := rfl
@[simp] theorem cpu_retire_e (s : Cpu) (len : Word) (m : Nat) : (s.retire len m).e = s.e := rfl
@[simp] theorem cpu_retire_h (s : Cpu) (len : Word) (m : Nat) : (s.retire len m).h = s.h := rfl
@[simp] theorem cpu_retire_l (s : Cpu) (len : Word) (m : Nat) : (s.retire len m).l = s.l := rfl
@[simp] theorem cpu_retire_sp (s : Cpu) (len : Word) (m : Nat) : (s.retire len m).sp = s.sp := rfl
@[simp] theorem cpu_retire_pc (s : Cpu) (len : Word) (m : Nat) : (s.retire len m).pc = s.pc + len := rfl
@[simp] theorem cpu_retire_ime (s : Cpu) (len : Word) (m : Nat) : (s.retire len m).ime = s.ime := rfl
@[simp] theorem cpu_retire_halted (s : Cpu) (len : Word) (m : Nat) : (s.retire len m).halted = s.halted := rfl
@[simp] theorem cpu_retire_mcycles (s : Cpu) (len : Word) (m : Nat) : (s.retire len m).mcycles = m := rfl

@[simp] theorem cpu_jump_a (s : Cpu) (target : Word) (m : Nat) : (s.jump target m).a = s.a := rfl
@[simp] theorem cpu_jump_f (s : Cpu) (target : Word) (m : Nat) : (s.jump target m).f = s.f := rfl
@[simp] theorem cpu_jump_b (s : Cpu) (target : Word) (m : Nat) : (s.jump target m).b = s.b := rfl
@[simp] theorem cpu_jump_c (s : Cpu) (target : Word) (m : Nat) : (s.jump target m).c = s.c := rfl
@[simp] theorem cpu_jump_d (s : Cpu) (target : Word) (m : Nat) : (s.jump target m).d = s.d := rfl
@[simp] theorem cpu_jump_e (s : Cpu) (target : Word) (m : Nat) : (s.jump target m).e = s.e := rfl
@[simp] theorem cpu_jump_h (s : Cpu) (target : Word) (m : Nat) : (s.jump target m).h = s.h := rfl
@[simp] theorem cpu_jump_l (s : Cpu) (target : Word) (m : Nat) : (s.jump target m).l = s.l := rfl
@[simp] theorem cpu_jump_sp (s : Cpu) (target : Word) (m : Nat) : (s.jump target m).sp = s.sp := rfl
@[simp] theorem cpu_jump_pc (s : Cpu) (target : Word) (m : Nat) : (s.jump target m).pc = target := rfl
@[simp] theorem cpu_jump_ime (s : Cpu) (target : Word) (m : Nat) : (s.jump target m).ime = s.ime := rfl
@[simp] theorem cpu_jump_halted (s : Cpu) (target : Word) (m : Nat) : (s.jump target m).halted = s.halted := rfl
@[simp] theorem cpu_jump_mcycles (s : Cpu) (target : Word) (m : Nat) : (s.jump target m).mcycles = m := rfl

@[simp] theorem cpu_popped_a (s : Cpu)  : (s.popped).a = s.a := rfl
@[simp] theorem cpu_popped_f (s : Cpu)  : (s.popped).f = s.f := rfl
@[simp] theorem cpu_popped_b (s : Cpu)  : (s.popped).b = s.b := rfl
@[simp] theorem cpu_popped_c (s : Cpu)  : (s.popped).c = s.c := rfl
@[simp] theorem cpu_popped_d (s : Cpu)  : (s.popped).d = s.d := rfl
@[simp] theorem cpu_popped_e (s : Cpu)  : (s.popped).e = s.e := rfl
@[simp] theorem cpu_popped_h (s : Cpu)  : (s.popped).h = s.h := rfl
@[simp] theorem cpu_popped_l (s : Cpu)  : (s.popped).l = s.l := rfl
@[simp] theorem cpu_popped_sp (s : Cpu)  : (s.popped).sp = s.sp + 2 := rfl
@[simp] theorem cpu_popped_pc (s : Cpu)  : (s.popped).pc = s.pc := rfl
@[simp] theorem cpu_popped_ime (s : Cpu)  : (s.popped).ime = s.ime := rfl
@[simp] theorem cpu_popped_halted (s : Cpu)  : (s.popped).halted = s.halted := rfl
@[simp] theorem cpu_popped_mcycles (s : Cpu)  : (s.popped).mcycles = s.mcycles := rfl

@[simp] theorem cpu_setAF_a (s : Cpu) (af : Byte × Flags) : (s.setAF af).a = af.1 := rfl
@[simp] theorem cpu_setAF_f (s : Cpu) (af : Byte × Flags) : (s.setAF af).f = af.2 := rfl
@[simp] theorem cpu_setAF_b (s : Cpu) (af : Byte × Flags) : (s.setAF af).b = s.b := rfl
@[simp] theorem cpu_setAF_c (s : Cpu) (af : Byte × Flags) : (s.setAF af).c = s.c := rfl
@[simp] theorem cpu_setAF_d (s : Cpu) (af : Byte × Flags) : (s.setAF af).d = s.d := rfl
@[simp] theorem cpu_setAF_e (s : Cpu) (af : Byte × Flags) : (s.setAF af).e = s.e := rfl
@[simp] theorem cpu_setAF_h (s : Cpu) (af : Byte × Flags) : (s.setAF af).h = s.h := rfl
@[simp] theorem cpu_setAF_l (s : Cpu) (af : Byte × Flags) : (s.setAF af).l = s.l := rfl
@[simp] theorem cpu_setAF_sp (s : Cpu) (af : Byte × Flags) : (s.setAF af).sp = s.sp := rfl
@[simp] theorem cpu_setAF_pc (s : Cpu) (af : Byte × Flags) : (s.setAF af).pc = s.pc := rfl
@[simp] theorem cpu_setAF_ime (s : Cpu) (af : Byte × Flags) : (s.setAF af).ime = s.ime := rfl
@[simp] theorem cpu_setAF_halted (s : Cpu) (af : Byte × Flags) : (s.setAF af).halted = s.halted := rfl
@[simp] theorem cpu_setAF_mcycles (s : Cpu) (af : Byte × Flags) : (s.setAF af).mcycles = s.mcycles := rfl

@[simp] theorem cpu_setBc_a (s : Cpu) (v : Word) : (s.setBc v).a = s.a := rfl
@[simp] theorem cpu_setBc_f (s : Cpu) (v : Word) : (s.setBc v).f = s.f := rfl
@[simp] theorem cpu_setBc_b (s : Cpu) (v : Word) : (s.setBc v).b = hiByte v := rfl
@[simp] theorem cpu_setBc_c (s : Cpu) (v : Word) : (s.setBc v).c = loByte v := rfl
@[simp] theorem cpu_setBc_d (s : Cpu) (v : Word) : (s.setBc v).d = s.d := rfl
@[simp] theorem cpu_setBc_e (s : Cpu) (v : Word) : (s.setBc v).e = s.e := rfl
@[simp] theorem cpu_setBc_h (s : Cpu) (v : Word) : (s.setBc v).h = s.h := rfl
@[simp] theorem cpu_setBc_l (s : Cpu) (v : Word) : (s.setBc v).l = s.l := rfl
@[simp] theorem cpu_setBc_sp (s : Cpu) (v : Word) : (s.setBc v).sp = s.sp := rfl
@[simp] theorem cpu_setBc_pc (s : Cpu) (v : Word) : (s.setBc v).pc = s.pc := rfl
@[simp] theorem cpu_setBc_ime (s : Cpu) (v : Word) : (s.setBc v).ime = s.ime := rfl
@[simp] theorem cpu_setBc_halted (s : Cpu) (v : Word) : (s.setBc v).halted = s.halted := rfl
@[simp] theorem cpu_setBc_mcycles (s : Cpu) (v : Word) : (s.setBc v).mcycles = s.mcycles := rfl

@[simp] theorem cpu_setDe_a (s : Cpu) (v : Word) : (s.setDe v).a = s.a := rfl
@[simp] theorem cpu_setDe_f (s : Cpu) (v : Word) : (s.setDe v).f = s.f := rfl
@[simp] theorem cpu_setDe_b (s : Cpu) (v : Word) : (s.setDe v).b = s.b := rfl
@[simp] theorem cpu_setDe_c (s : Cpu) (v : Word) : (s.setDe v).c = s.c := rfl
@[simp] theorem cpu_setDe_d (s : Cpu) (v : Word) : (s.setDe v).d = hiByte v := rfl
@[simp] theorem cpu_setDe_e (s : Cpu) (v : Word) : (s.setDe v).e = loByte v := rfl
@[simp] theorem cpu_setDe_h (s : Cpu) (v : Word) : (s.setDe v).h = s.h := rfl
@[simp] theorem cpu_setDe_l (s : Cpu) (v : Word) : (s.setDe v).l = s.l := rfl
@[simp] theorem cpu_setDe_sp (s : Cpu) (v : Word) : (s.setDe v).sp = s.sp := rfl
@[simp] theorem cpu_setDe_pc (s : Cpu) (v : Word) : (s.setDe v).pc = s.pc := rfl
@[simp] theorem cpu_setDe_ime (s : Cpu) (v : Word) : (s.setDe v).ime = s.ime := rfl
@[simp] theorem cpu_setDe_halted (s : Cpu) (v : Word) : (s.setDe v).halted = s.halted := rfl
@[simp] theorem cpu_setDe_mcycles (s : Cpu) (v : Word) : (s.setDe v).mcycles = s.mcycles := rfl

@[simp] theorem cpu_setHl_a (s : Cpu) (v : Word) : (s.setHl v).a = s.a := rfl
@[simp] theorem cpu_setHl_f (s : Cpu) (v : Word) : (s.setHl v).f = s.f := rfl
@[simp] theorem cpu_setHl_b (s : Cpu) (v : Word) : (s.setHl v).b = s.b := rfl
@[simp] theorem cpu_setHl_c (s : Cpu) (v : Word) : (s.setHl v).c = s.c := rfl
@[simp] theorem cpu_setHl_d (s : Cpu) (v : Word) : (s.setHl v).d = s.d := rfl
@[simp] theorem cpu_setHl_e (s : Cpu) (v : Word) : (s.setHl v).e = s.e := rfl
@[simp] theorem cpu_setHl_h (s : Cpu) (v : Word) : (s.setHl v).h = hiByte v := rfl
@[simp] theorem cpu_setHl_l (s : Cpu) (v : Word) : (s.setHl v).l = loByte v := rfl
@[simp] theorem cpu_setHl_sp (s : Cpu) (v : Word) : (s.setHl v).sp = s.sp := rfl
@[simp] theorem cpu_setHl_pc (s : Cpu) (v : Word) : (s.setHl v).pc = s.pc := rfl
@[simp] theorem cpu_setHl_ime (s : Cpu) (v : Word) : (s.setHl v).ime = s.ime := rfl
@[simp] theorem cpu_setHl_halted (s : Cpu) (v : Word) : (s.setHl v).halted = s.halted := rfl
@[simp] theorem cpu_setHl_mcycles (s : Cpu) (v : Word) : (s.setHl v).mcycles = s.mcycles := rfl

@[simp] theorem cpu_setAf_a (s : Cpu) (v : Word) : (s.setAf v).a = hiByte v := rfl
@[simp] theorem cpu_setAf_f (s : Cpu) (v : Word) : (s.setAf v).f = Flags.ofByte (loByte v) := rfl
@[simp] theorem cpu_setAf_b (s : Cpu) (v : Word) : (s.setAf v).b = s.b := rfl
@[simp] theorem cpu_setAf_c (s : Cpu) (v : Word) : (s.setAf v).c = s.c := rfl
@[simp] theorem cpu_setAf_d (s : Cpu) (v : Word) : (s.setAf v).d = s.d := rfl
@[simp] theorem cpu_setAf_e (s : Cpu) (v : Word) : (s.setAf v).e = s.e := rfl
@[simp] theorem cpu_setAf_h (s : Cpu) (v : Word) : (s.setAf v).h = s.h := rfl
@[simp] theorem cpu_setAf_l (s : Cpu) (v : Word) : (s.setAf v).l = s.l := rfl
@[simp] theorem cpu_setAf_sp (s : Cpu) (v : Word) : (s.setAf v).sp = s.sp := rfl
@[simp] theorem cpu_setAf_pc (s : Cpu) (v : Word) : (s.setAf v).pc = s.pc := rfl
@[simp] theorem cpu_setAf_ime (s : Cpu) (v : Word) : (s.setAf v).ime = s.ime := rfl
@[simp] theorem cpu_setAf_halted (s : Cpu) (v : Word) : (s.setAf v).halted = s.halted := rfl
@[simp] theorem cpu_setAf_mcycles (s : Cpu) (v : Word) : (s.setAf v).mcycles = s.mcycles := rfl

@[simp] theorem cpu_returnTo_a (s : Cpu) (target : Word) (m : Nat) : (s.returnTo target m).a = s.a := rfl
@[simp] theorem cpu_returnTo_f (s : Cpu) (target : Word) (m : Nat) : (s.returnTo target m).f = s.f := rfl
@[simp] theorem cpu_returnTo_b (s : Cpu) (target : Word) (m : Nat) : (s.returnTo target m).b = s.b := rfl
@[simp] theorem cpu_returnTo_c (s : Cpu) (target : Word) (m : Nat) : (s.returnTo target m).c = s.c := rfl
@[simp] theorem cpu_returnTo_d (s : Cpu) (target : Word) (m : Nat) : (s.returnTo target m).d = s.d := rfl
@[simp] theorem cpu_returnTo_e (s : Cpu) (target : Word) (m : Nat) : (s.returnTo target m).e = s.e := rfl
@[simp] theorem cpu_returnTo_h (s : Cpu) (target : Word) (m : Nat) : (s.returnTo target m).h = s.h := rfl
@[simp] theorem cpu_returnTo_l (s : Cpu) (target : Word) (m : Nat) : (s.returnTo target m).l = s.l := rfl
@[simp] theorem cpu_returnTo_sp (s : Cpu) (target : Word) (m : Nat) : (s.returnTo target m).sp = s.sp + 2 := rfl
@[simp] theorem cpu_returnTo_pc (s : Cpu) (target : Word) (m : Nat) : (s.returnTo target m).pc = target := rfl
@[simp] theorem cpu_returnTo_ime (s : Cpu) (target : Word) (m : Nat) : (s.returnTo target m).ime = true := rfl
@[simp] theorem cpu_returnTo_halted (s : Cpu) (target : Word) (m : Nat) : (s.returnTo target m).halted = s.halted := rfl
@[simp] theorem cpu_returnTo_mcycles (s : Cpu) (target : Word) (m : Nat) : (s.returnTo target m).mcycles = m := rfl

/-- Replacing the CPU twice is replacing it once. -/
@[simp] theorem withCpu_withCpu (s : State) (k k' : Cpu) : (s.withCpu k).withCpu k' = s.withCpu k' := rfl

/-- Replacing the CPU by itself changes nothing. -/
@[simp] theorem withCpu_cpu (s : State) : s.withCpu s.cpu = s := rfl

@[simp] theorem setReg_sp (s : Cpu) (r : Reg) (v : Byte) : (s.setReg r v).sp = s.sp := by cases r <;> rfl
@[simp] theorem setReg_pc (s : Cpu) (r : Reg) (v : Byte) : (s.setReg r v).pc = s.pc := by cases r <;> rfl
@[simp] theorem setReg_ime (s : Cpu) (r : Reg) (v : Byte) : (s.setReg r v).ime = s.ime := by cases r <;> rfl
@[simp] theorem setReg_halted (s : Cpu) (r : Reg) (v : Byte) : (s.setReg r v).halted = s.halted := by cases r <;> rfl
@[simp] theorem setReg_mcycles (s : Cpu) (r : Reg) (v : Byte) : (s.setReg r v).mcycles = s.mcycles := by cases r <;> rfl
@[simp] theorem setReg_f (s : Cpu) (r : Reg) (v : Byte) : (s.setReg r v).f = s.f := by cases r <;> rfl

/-- A register reads as it was written (R13). -/
@[simp] theorem reg_setReg (s : Cpu) (r : Reg) (v : Byte) : (s.setReg r v).reg r = v := by cases r <;> rfl

/-- Writing a register leaves the others alone (R13, R32). -/
theorem reg_setReg_of_ne (s : Cpu) {r q : Reg} (v : Byte) (h : q ≠ r) : (s.setReg r v).reg q = s.reg q := by
  cases r <;> cases q <;> first | rfl | exact absurd rfl h

/-- The bits of two bytes joined (R12). -/
theorem getLsbD_joinBytes (a b : Byte) (i : Nat) :
    (joinBytes a b).getLsbD i = if i < 8 then b.getLsbD i else a.getLsbD (i - 8) := by
  have h := @BitVec.getLsbD_append 8 8 i a b
  simpa [joinBytes] using h

/-- The two halves of a word, joined, are the word. -/
@[simp] theorem joinBytes_hi_lo (v : Word) : joinBytes (hiByte v) (loByte v) = v := by
  apply BitVec.eq_of_getLsbD_eq
  intro i hi
  rw [getLsbD_joinBytes]
  simp only [hiByte, loByte, BitVec.getLsbD_extractLsb', BitVec.getLsbD_setWidth]
  split
  · simp [*]
  · rw [Nat.add_sub_cancel' (by omega)]
    simp
    omega

@[simp] theorem hiByte_joinBytes (a b : Byte) : hiByte (joinBytes a b) = a := by
  apply BitVec.eq_of_getLsbD_eq
  intro i hi
  rw [hiByte, BitVec.getLsbD_extractLsb', getLsbD_joinBytes]
  simp
  omega

@[simp] theorem loByte_joinBytes (a b : Byte) : loByte (joinBytes a b) = b := by
  apply BitVec.eq_of_getLsbD_eq
  intro i hi
  rw [loByte, BitVec.getLsbD_setWidth, getLsbD_joinBytes]
  simp [hi]

/-- A pair reads as it was written (R32). -/
@[simp] theorem pair_setPair (s : Cpu) (p : Pair) (v : Word) : (s.setPair p v).pair p = v := by
  cases p <;> simp [Cpu.setPair, Cpu.pair, Cpu.bc, Cpu.de, Cpu.hl]

end Sys2Proof.Laws
end

