-- ==== Sys2Proof/Laws/Store.lean ====
section
/-! SUPPORT. The laws of the sparse stores: a read after a write, and that a write keeps the canonical form. -/

namespace Sys2Proof.Laws

open Sys2Proof.Machine

variable {α : Type}

/-- A write leaves every other key alone, in any store. -/
theorem storeGet_storeSet_of_ne [DecidableEq α] (d : α) (m : List (Nat × α)) (k j : Nat) (v : α) (h : j ≠ k) :
    storeGet d (storeSet d m k v) j = storeGet d m j := by
  induction m with
  | nil => by_cases hv : v = d <;> simp [storeSet, storeGet, hv, h]
  | cons e m ih =>
    obtain ⟨k', v'⟩ := e
    simp only [storeSet]
    split
    · split <;> simp [storeGet, h]
    · split
      · rename_i hk
        subst hk
        split <;> simp [storeGet, h]
      · simp only [storeGet, ih]

theorem keyAbove_trans {m : List (Nat × α)} {k j : Nat} (hkj : k < j) (h : keyAbove j m = true) :
    keyAbove k m = true := by
  cases m with
  | nil => rfl
  | cons e m => simp only [keyAbove, decide_eq_true_eq] at h ⊢; omega

/-- A key below every listed key reads as unlisted. -/
theorem storeGet_of_keyAbove [DecidableEq α] (d : α) {m : List (Nat × α)} {k : Nat} (hw : storeWf d m = true)
    (h : keyAbove k m = true) : storeGet d m k = d := by
  induction m with
  | nil => rfl
  | cons e m ih =>
    obtain ⟨k', v'⟩ := e
    simp only [storeWf, Bool.and_eq_true] at hw
    simp only [keyAbove, decide_eq_true_eq] at h
    rw [storeGet, if_neg (by omega)]
    exact ih hw.2 (keyAbove_trans h hw.1.2)

/-- A read after a write to the same key gives the value written. -/
theorem storeGet_storeSet_same [DecidableEq α] (d : α) {m : List (Nat × α)} (k : Nat) (v : α)
    (hw : storeWf d m = true) : storeGet d (storeSet d m k v) k = v := by
  induction m with
  | nil => by_cases hv : v = d <;> simp [storeSet, storeGet, hv]
  | cons e m ih =>
    obtain ⟨k', v'⟩ := e
    have hw' := hw
    simp only [storeWf, Bool.and_eq_true] at hw
    simp only [storeSet]
    split
    · rename_i hlt
      split
      · rename_i hv
        rw [hv]
        exact storeGet_of_keyAbove d hw' (by simpa [keyAbove] using hlt)
      · simp [storeGet]
    · split
      · rename_i hk
        subst hk
        split
        · rename_i hv
          rw [hv]
          exact storeGet_of_keyAbove d hw.2 hw.1.2
        · simp [storeGet]
      · rename_i hk
        rw [storeGet, if_neg hk]
        exact ih hw.2

theorem keyAbove_storeSet [DecidableEq α] (d : α) {m : List (Nat × α)} {j k : Nat} (v : α) (hjk : j < k)
    (h : keyAbove j m = true) (hw : storeWf d m = true) : keyAbove j (storeSet d m k v) = true := by
  cases m with
  | nil => by_cases hv : v = d <;> simp [storeSet, keyAbove, hv, hjk]
  | cons e m =>
    obtain ⟨k', v'⟩ := e
    simp only [storeWf, Bool.and_eq_true] at hw
    simp only [keyAbove, decide_eq_true_eq] at h
    simp only [storeSet]
    split
    · split <;> simp [keyAbove, h, hjk]
    · split
      · split
        · exact keyAbove_trans h hw.1.2
        · simpa [keyAbove] using hjk
      · simpa [keyAbove] using h

/-- A write keeps the canonical form. -/
theorem storeWf_storeSet [DecidableEq α] (d : α) {m : List (Nat × α)} (k : Nat) (v : α) (hw : storeWf d m = true) :
    storeWf d (storeSet d m k v) = true := by
  induction m with
  | nil => by_cases hv : v = d <;> simp [storeSet, storeWf, keyAbove, hv]
  | cons e m ih =>
    obtain ⟨k', v'⟩ := e
    have hw' := hw
    simp only [storeWf, Bool.and_eq_true] at hw
    simp only [storeSet]
    split
    · rename_i hlt
      split
      · exact hw'
      · rename_i hv
        rw [storeWf, hw']
        simp [hv, keyAbove, hlt]
    · split
      · rename_i hk
        subst hk
        split
        · exact hw.2
        · rename_i hv
          simp [storeWf, hv, hw]
      · rename_i hlt hk
        simp only [storeWf, Bool.and_eq_true]
        exact ⟨⟨hw.1.1, keyAbove_storeSet d v (by omega) hw.1.2 hw.2⟩, ih hw.2⟩

/-- Every key of a store after a write is a key of the store before, or the key written. -/
theorem mem_storeSet [DecidableEq α] (d : α) {m : List (Nat × α)} {k : Nat} {v : α} {e : Nat × α}
    (h : e ∈ storeSet d m k v) : e ∈ m ∨ e = (k, v) := by
  induction m with
  | nil => simp only [storeSet] at h; split at h <;> simp_all
  | cons e' m ih =>
    obtain ⟨k', v'⟩ := e'
    simp only [storeSet] at h
    split at h
    · split at h
      · exact .inl h
      · exact (List.mem_cons.mp h).symm
    · split at h
      · split at h
        · exact .inl (List.mem_cons_of_mem _ h)
        · exact (List.mem_cons.mp h).symm.imp_left (List.mem_cons_of_mem _)
      · rcases List.mem_cons.mp h with h | h
        · exact .inl (h ▸ List.mem_cons_self)
        · rcases ih h with h | h
          · exact .inl (List.mem_cons_of_mem _ h)
          · exact .inr h

/-- A memory write leaves every other offset alone. -/
theorem Memory.read_write_of_ne (m : Memory) (k j : Nat) (v : Byte) (h : j ≠ k) :
    (m.write k v).read j = m.read j := storeGet_storeSet_of_ne _ m k j v h

/-- A read after a write to the same offset gives the byte written. -/
theorem Memory.read_write_same {m : Memory} (k : Nat) (v : Byte) (hw : m.wf = true) :
    (m.write k v).read k = v := storeGet_storeSet_same _ k v hw

/-- A memory write keeps the canonical form. -/
theorem Memory.wf_write {m : Memory} (k : Nat) (v : Byte) (hw : m.wf = true) : (m.write k v).wf = true :=
  storeWf_storeSet _ k v hw

end Sys2Proof.Laws
end

