-- ==== Sys2Proof/Laws/Ops.lean ====
section
/-! SUPPORT. The laws of the shared operations over memory: what a read depends on, and everything a bus write can
do. -/

namespace Sys2Proof.Laws

open Sys2Proof.Machine Sys2Proof.Safety

/-- A read does not look at the CPU. -/
@[simp] theorem memRead_withCpu (s : State) (k : Cpu) (a : Word) : memRead (s.withCpu k) a = memRead s a := by
  simp only [memRead]
  cases busRegion a <;> rfl

@[simp] theorem memRead16_withCpu (s : State) (k : Cpu) (a : Word) : memRead16 (s.withCpu k) a = memRead16 s a := by
  simp [memRead16]

/-- The CPU stays apart from the sprite-table copy. -/
theorem dmaFold_withCpu (v : Byte) (k : Cpu) (l : List Nat) (s : State) :
    l.foldl (dmaByte v) (s.withCpu k) = (l.foldl (dmaByte v) s).withCpu k := by
  induction l generalizing s with
  | nil => rfl
  | cons i l ih =>
    have h : dmaByte v (s.withCpu k) i = (dmaByte v s i).withCpu k := by
      simp only [dmaByte, memRead_withCpu]
      rfl
    rw [List.foldl_cons, List.foldl_cons, h, ih]

theorem ioWrite_withCpu (s : State) (k : Cpu) (r : IoReg) (v : Byte) :
    ioWrite (s.withCpu k) r v = (ioWrite s r v).withCpu k := by
  cases r with
  | dma => exact dmaFold_withCpu v k (List.range Config.oamBytes) { s with ppu := { s.ppu with dma := v } }
  | _ => rfl

theorem selectRomBank_withCpu (s : State) (k : Cpu) (b : BitVec 7) :
    selectRomBank (s.withCpu k) b = (selectRomBank s b).map (·.withCpu k) := by
  rw [selectRomBank, selectRomBank, state_withCpu_cart]
  by_cases h : b.toNat ≥ s.cart.romBanks
  · rw [if_pos h, if_pos h]
    rfl
  · rw [if_neg h, if_neg h]
    rfl

theorem selectRamBank_withCpu (s : State) (k : Cpu) (b : BitVec 2) :
    selectRamBank (s.withCpu k) b = (selectRamBank s b).map (·.withCpu k) := by
  rw [selectRamBank, selectRamBank, state_withCpu_cart]
  by_cases h : b.toNat ≥ max s.cart.ramBanks 1
  · rw [if_pos h, if_pos h]
    rfl
  · rw [if_neg h, if_neg h]
    rfl

theorem bankCommand_withCpu (s : State) (k : Cpu) (a : Word) (v : Byte) :
    bankCommand (s.withCpu k) a v = (bankCommand s a v).map (·.withCpu k) := by
  have hl : romBankLowCand (s.withCpu k) v = romBankLowCand s v := rfl
  have hh : romBankHighCand (s.withCpu k) v = romBankHighCand s v := rfl
  simp only [bankCommand, state_withCpu_cart, state_withCpu_mmu, selectRomBank_withCpu, selectRamBank_withCpu, hl, hh]
  cases s.cart.banked with
  | false => rfl
  | true =>
    simp only [if_true]
    by_cases h1 : a.toNat ≤ 0x1FFF
    · simp only [h1, if_true]
      rfl
    by_cases h2 : a.toNat ≤ 0x3FFF
    · simp only [h1, h2, if_true, if_false]
    by_cases h3 : a.toNat ≤ 0x5FFF
    · simp only [h1, h2, h3, if_true, if_false]
      cases s.mmu.bankMode <;> rfl
    · simp only [h1, h2, h3, if_false]
      rfl

theorem eramWrite_withCpu (s : State) (k : Cpu) (off : Nat) (v : Byte) :
    eramWrite (s.withCpu k) off v = (eramWrite s off v).withCpu k := by
  have hu : eramUsable (s.withCpu k) = eramUsable s := rfl
  simp only [eramWrite, hu]
  split <;> rfl

/-- A bus write does not look at the CPU and does not touch it. -/
theorem memWrite_withCpu (s : State) (k : Cpu) (a : Word) (v : Byte) :
    memWrite (s.withCpu k) a v = (memWrite s a v).map (·.withCpu k) := by
  simp only [memWrite]
  cases busRegion a <;> simp only [bankCommand_withCpu, eramWrite_withCpu, ioWrite_withCpu] <;> rfl

theorem memWrite16_withCpu (s : State) (k : Cpu) (a v : Word) :
    memWrite16 (s.withCpu k) a v = (memWrite16 s a v).map (·.withCpu k) := by
  simp only [memWrite16, memWrite_withCpu]
  cases memWrite s a (loByte v) with
  | error f => rfl
  | ok t => exact memWrite_withCpu t k _ _

/-- The address map, one alternative for each row of R81. -/
theorem busRegion_cases (a : Word) :
    (a.toNat ≤ 0x3FFF ∧ busRegion a = .rom0 a.toNat) ∨
    (0x4000 ≤ a.toNat ∧ a.toNat ≤ 0x7FFF ∧ busRegion a = .romBank (a.toNat - 0x4000)) ∨
    (0x8000 ≤ a.toNat ∧ a.toNat ≤ 0x9FFF ∧ busRegion a = .vram (a.toNat - 0x8000)) ∨
    (0xA000 ≤ a.toNat ∧ a.toNat ≤ 0xBFFF ∧ busRegion a = .eram (a.toNat - 0xA000)) ∨
    (0xC000 ≤ a.toNat ∧ a.toNat ≤ 0xDFFF ∧ busRegion a = .wram (a.toNat - 0xC000)) ∨
    (0xE000 ≤ a.toNat ∧ a.toNat ≤ 0xFDFF ∧ busRegion a = .wram (a.toNat - 0xE000)) ∨
    (0xFE00 ≤ a.toNat ∧ a.toNat ≤ 0xFE9F ∧ busRegion a = .oam (a.toNat - 0xFE00)) ∨
    (0xFEA0 ≤ a.toNat ∧ a.toNat ≤ 0xFEFF ∧ busRegion a = .unmapped) ∨
    (0xFF00 ≤ a.toNat ∧ a.toNat ≤ 0xFF7F ∧ busRegion a = .io (ioReg (a.toNat - 0xFF00))) ∨
    (0xFF80 ≤ a.toNat ∧ a.toNat ≤ 0xFFFE ∧ busRegion a = .hram (a.toNat - 0xFF80)) ∨
    (0xFFFF ≤ a.toNat ∧ a.toNat ≤ 0xFFFF ∧ busRegion a = .ie) := by
  simp only [busRegion]
  repeat' split
  all_goals
    simp only [reduceCtorEq, Region.wram.injEq, and_false, and_true, false_or, or_false]
    omega

/-- Every bus write above the ROM range is accepted (R83). -/
theorem memWrite_above_rom (s : State) {a : Word} (h : 0x7FFF < a.toNat) (v : Byte) :
    ∃ t, memWrite s a v = .ok t := by
  simp only [memWrite]
  rcases busRegion_cases a with h' | h' | h' | h' | h' | h' | h' | h' | h' | h' | h'
  · omega
  · omega
  all_goals
    rw [h'.2.2]
    exact ⟨_, rfl⟩

/-- An address written as base plus offset. -/
theorem toNat_address {n k : Nat} (h : n + k < 0x10000) : (BitVec.ofNat 16 (n + k)).toNat = n + k := by
  rw [BitVec.toNat_ofNat]
  exact Nat.mod_eq_of_lt h

/-! The owner of an address by its offset in each window of memory (R86 to R92). -/

theorem busRegion_vram {k : Nat} (h : k < 0x2000) : busRegion (BitVec.ofNat 16 (0x8000 + k)) = .vram k := by
  simp (disch := omega) only [busRegion, toNat_address, if_pos, if_neg, Nat.add_sub_cancel_left]

theorem busRegion_eram {k : Nat} (h : k < 0x2000) : busRegion (BitVec.ofNat 16 (0xA000 + k)) = .eram k := by
  simp (disch := omega) only [busRegion, toNat_address, if_pos, if_neg, Nat.add_sub_cancel_left]

theorem busRegion_wram {k : Nat} (h : k < 0x2000) : busRegion (BitVec.ofNat 16 (0xC000 + k)) = .wram k := by
  simp (disch := omega) only [busRegion, toNat_address, if_pos, if_neg, Nat.add_sub_cancel_left]

theorem busRegion_echo {k : Nat} (h : k < 0x1E00) : busRegion (BitVec.ofNat 16 (0xE000 + k)) = .wram k := by
  simp (disch := omega) only [busRegion, toNat_address, if_pos, if_neg, Nat.add_sub_cancel_left]

theorem busRegion_oam {k : Nat} (h : k < 0xA0) : busRegion (BitVec.ofNat 16 (0xFE00 + k)) = .oam k := by
  simp (disch := omega) only [busRegion, toNat_address, if_pos, if_neg, Nat.add_sub_cancel_left]

theorem busRegion_hram {k : Nat} (h : k < 0x7F) : busRegion (BitVec.ofNat 16 (0xFF80 + k)) = .hram k := by
  simp (disch := omega) only [busRegion, toNat_address, if_pos, if_neg, Nat.add_sub_cancel_left]

/-- A bus access of a peripheral register is the register's (R91). -/
theorem access_of_io {a : Word} {r : IoReg} (h : busRegion a = .io r) (s : State) (v : Byte) :
    memRead s a = ioRead s r ∧ memWrite s a v = .ok (ioWrite s r v) := by
  constructor
  · rw [memRead, h]
    rfl
  · rw [memWrite, h]

end Sys2Proof.Laws
end

