-- ==== Sys2Proof/Laws/Bus.lean ====
section
/-! SUPPORT. Everything a bus write can do: when the bank controller rejects it, what it keeps, what reads back, and
that it keeps the canonical form and the sizes of the memories. -/

namespace Sys2Proof.Laws

open Sys2Proof.Machine Sys2Proof.Safety

/-- An address outside the two windows is owned by neither (R81). -/
theorem region_of_not_window {b : Word} (h : inBankWindow b = false) :
    (∀ o, busRegion b ≠ .romBank o) ∧ ∀ o, busRegion b ≠ .eram o := by
  simp only [inBankWindow, Bool.or_eq_false_iff, Bool.and_eq_false_iff, decide_eq_false_iff_not] at h
  rcases busRegion_cases b with h' | h' | h' | h' | h' | h' | h' | h' | h' | h' | h' <;>
    first
      | (simp [h'.2]; done)
      | (simp [h'.2.2]; done)
      | omega

theorem region_of_not_sprite {b : Word} (h : inSpriteTable b = false) : ∀ o, busRegion b ≠ .oam o := by
  simp only [inSpriteTable, Bool.and_eq_false_iff, decide_eq_false_iff_not] at h
  rcases busRegion_cases b with h' | h' | h' | h' | h' | h' | h' | h' | h' | h' | h' <;>
    first
      | (simp [h'.2]; done)
      | (simp [h'.2.2]; done)
      | omega

/-- The sprite-table copy changes the sprite table and nothing else, and keeps its canonical form and its size. -/
theorem dmaFold_shape (v : Byte) (l : List Nat) (hl : ∀ i ∈ l, i < 0xA0) (s : State) :
    ∃ m, l.foldl (dmaByte v) s = { s with ppu := { s.ppu with oam := m } } ∧
      (Memory.wf s.ppu.oam = true → Memory.wf m = true) ∧
      (offsetsBelow 0xA0 s.ppu.oam = true → offsetsBelow 0xA0 m = true) := by
  induction l generalizing s with
  | nil => exact ⟨s.ppu.oam, rfl, id, id⟩
  | cons i l ih =>
    obtain ⟨m, hm, hw, hb⟩ := ih (fun j hj => hl j (List.mem_cons_of_mem _ hj)) (dmaByte v s i)
    refine ⟨m, by rw [List.foldl_cons, hm]; rfl, fun h => hw (Memory.wf_write _ _ h), fun h => hb ?_⟩
    simp only [offsetsBelow, List.all_eq_true, decide_eq_true_eq] at h ⊢
    intro e he
    rcases mem_storeSet _ he with he | he
    · exact h e he
    · rw [he]
      exact hl i List.mem_cons_self

theorem dmaWrite_shape (s : State) (v : Byte) :
    ∃ m, dmaWrite s v = { s with ppu := { s.ppu with dma := v, oam := m } } ∧
      (Memory.wf s.ppu.oam = true → Memory.wf m = true) ∧
      (offsetsBelow 0xA0 s.ppu.oam = true → offsetsBelow 0xA0 m = true) :=
  dmaFold_shape v (List.range Config.oamBytes) (fun i hi => by simpa [Config.oamBytes] using hi)
    { s with ppu := { s.ppu with dma := v } }

theorem selectRomBank_ok {s t : State} {b : BitVec 7} (h : selectRomBank s b = .ok t) :
    b.toNat < s.cart.romBanks ∧ t = { s with mmu := { s.mmu with romBank := b } } := by
  simp only [selectRomBank] at h
  split at h
  · cases h
  · rename_i hb
    injection h with h
    exact ⟨by omega, h.symm⟩

theorem selectRamBank_ok {s t : State} {b : BitVec 2} (h : selectRamBank s b = .ok t) :
    b.toNat < max s.cart.ramBanks 1 ∧ t = { s with mmu := { s.mmu with ramBank := b } } := by
  simp only [selectRamBank] at h
  split at h
  · cases h
  · rename_i hb
    injection h with h
    exact ⟨by omega, h.symm⟩

/-- What a bank command can do (R99 to R103): nothing, or one of the five settings. -/
theorem bankCommand_ok {s t : State} {a : Word} {v : Byte} (h : bankCommand s a v = .ok t) :
    t = s ∨
    (∃ e, t = { s with mmu := { s.mmu with ramEnable := e } }) ∨
    (romBankLowCand s v).toNat < s.cart.romBanks ∧ t = { s with mmu := { s.mmu with romBank := romBankLowCand s v } } ∨
    (romBankHighCand s v).toNat < s.cart.romBanks ∧
      t = { s with mmu := { s.mmu with romBank := romBankHighCand s v } } ∨
    (∃ b : BitVec 2, b.toNat < max s.cart.ramBanks 1 ∧ t = { s with mmu := { s.mmu with ramBank := b } }) ∨
    (∃ e, t = { s with mmu := { s.mmu with bankMode := e } }) := by
  simp only [bankCommand] at h
  split at h
  · split at h
    · injection h with h
      exact .inr (.inl ⟨_, h.symm⟩)
    split at h
    · exact .inr (.inr (.inl (selectRomBank_ok h)))
    split at h
    · split at h
      · exact .inr (.inr (.inr (.inr (.inl ⟨_, selectRamBank_ok h⟩))))
      · exact .inr (.inr (.inr (.inl (selectRomBank_ok h))))
    · injection h with h
      exact .inr (.inr (.inr (.inr (.inr ⟨_, h.symm⟩))))
  · injection h with h
    exact .inl h.symm

/-- A bank command changes nothing outside the bank controller. -/
theorem bankCommand_mmu {s t : State} {a : Word} {v : Byte} (h : bankCommand s a v = .ok t) :
    t = { s with mmu := { s.mmu with romBank := t.mmu.romBank, ramBank := t.mmu.ramBank,
                                     ramEnable := t.mmu.ramEnable, bankMode := t.mmu.bankMode } } := by
  rcases bankCommand_ok h with h | ⟨_, h⟩ | ⟨_, h⟩ | ⟨_, h⟩ | ⟨_, _, h⟩ | ⟨_, h⟩ <;> rw [h]

/-- The low field of a candidate bank is never 0, whichever command asks (R101, R102). -/
theorem romBankLowCand_toNat (s : State) (v : Byte) : (romBankLowCand s v).toNat = lowCandidate s v := by
  have hb := s.mmu.romBank.isLt
  simp only [romBankLowCand, lowCandidate, BitVec.toNat_append, BitVec.extractLsb'_toNat]
  have h5 : (v.setWidth 5 : BitVec 5).toNat = v.toNat % 32 := by simp
  have h0 : (v.setWidth 5 : BitVec 5) = 0 ↔ v.toNat % 32 = 0 := by
    rw [← h5]
    exact ⟨fun h => by rw [h]; rfl, fun h => BitVec.eq_of_toNat_eq h⟩
  have hs : s.mmu.romBank.toNat >>> 5 % 2 ^ 2 = s.mmu.romBank.toNat / 32 := by
    rw [Nat.shiftRight_eq_div_pow]
    omega
  rw [hs, ← Nat.shiftLeft_add_eq_or_of_lt, Nat.shiftLeft_eq]
  · by_cases h : v.toNat % 32 = 0
    · rw [if_pos (h0.mpr h), if_pos h]
      simp
      omega
    · rw [if_neg (fun hc => h (h0.mp hc)), if_neg h, h5]
      omega
  · split
    · decide
    · rw [h5]
      omega

theorem romBankHighCand_toNat (s : State) (v : Byte) : (romBankHighCand s v).toNat = highCandidate s v := by
  simp only [romBankHighCand, highCandidate, BitVec.toNat_append, BitVec.toNat_setWidth]
  rw [← Nat.shiftLeft_add_eq_or_of_lt, Nat.shiftLeft_eq]
  · simp
    omega
  · simp
    omega

/-- A write the bank controller rejects is fatal with the rejected index (R101, R102, R343). -/
theorem memWrite_of_rejected {s : State} {a : Word} {v : Byte} {k : Nat} (h : rejectedBank s a v = some k) :
    memWrite s a v = .error (.bankIndexOutOfRange k) := by
  unfold rejectedBank at h
  split at h
  · cases h
  rename_i hb
  have hb : s.cart.banked = true := by simpa using hb
  have hcmd : ∀ r, a.toNat ≤ 0x7FFF → memWrite s a v = r ∨ bankCommand s a v ≠ r := by
    intro r ha
    by_cases hr : bankCommand s a v = r
    · left
      rw [← hr]
      simp only [memWrite]
      rcases busRegion_cases a with h' | h' | h' | h' | h' | h' | h' | h' | h' | h' | h'
      · rw [h'.2]
      · rw [h'.2.2]
      all_goals omega
    · exact .inr hr
  split at h
  · rename_i ha
    refine (hcmd _ (by omega)).resolve_right (fun hc => hc ?_)
    split at h
    · rename_i hge
      injection h with h
      rw [bankCommand, if_pos hb, if_neg (by omega), if_pos ha.2, selectRomBank, romBankLowCand_toNat,
        if_pos hge, h]
    · cases h
  split at h
  · rename_i ha1 ha
    refine (hcmd _ (by omega)).resolve_right (fun hc => hc ?_)
    rw [bankCommand, if_pos hb, if_neg (by omega), if_neg (by omega), if_pos ha.2]
    split at h
    · rename_i hm
      rw [if_pos hm]
      split at h
      · rename_i hge
        injection h with h
        have h2 : (v.setWidth 2 : BitVec 2).toNat = v.toNat % 4 := by simp
        rw [selectRamBank, h2, if_pos hge, h]
      · cases h
    · rename_i hm
      rw [if_neg hm]
      split at h
      · rename_i hge
        injection h with h
        rw [selectRomBank, romBankHighCand_toNat, if_pos hge, h]
      · cases h
  · cases h

/-- Every other write is accepted (R83, R101, R102, R343). -/
theorem memWrite_of_accepted {s : State} {a : Word} {v : Byte} (h : rejectedBank s a v = none) :
    ∃ t, memWrite s a v = .ok t := by
  by_cases ha : 0x7FFF < a.toNat
  · exact memWrite_above_rom s ha v
  have hcmd : memWrite s a v = bankCommand s a v := by
    simp only [memWrite]
    rcases busRegion_cases a with h' | h' | h' | h' | h' | h' | h' | h' | h' | h' | h'
    · rw [h'.2]
    · rw [h'.2.2]
    all_goals omega
  rw [hcmd, bankCommand]
  unfold rejectedBank at h
  by_cases hb : s.cart.banked = true
  · rw [if_pos hb]
    rw [if_neg (by simp [hb])] at h
    by_cases h1 : a.toNat ≤ 0x1FFF
    · exact ⟨_, if_pos h1⟩
    rw [if_neg h1]
    by_cases h2 : a.toNat ≤ 0x3FFF
    · rw [if_pos h2]
      rw [if_pos ⟨by omega, h2⟩] at h
      split at h
      · cases h
      · rename_i hlt
        rw [selectRomBank, romBankLowCand_toNat, if_neg hlt]
        exact ⟨_, rfl⟩
    rw [if_neg h2]
    rw [if_neg (by omega)] at h
    by_cases h3 : a.toNat ≤ 0x5FFF
    · rw [if_pos h3]
      rw [if_pos ⟨by omega, h3⟩] at h
      split at h
      · rename_i hm
        rw [if_pos hm]
        split at h
        · cases h
        · rename_i hlt
          have h2 : (v.setWidth 2 : BitVec 2).toNat = v.toNat % 4 := by simp
          rw [selectRamBank, h2, if_neg hlt]
          exact ⟨_, rfl⟩
      · rename_i hm
        rw [if_neg hm]
        split at h
        · cases h
        · rename_i hlt
          rw [selectRomBank, romBankHighCand_toNat, if_neg hlt]
          exact ⟨_, rfl⟩
    · rw [if_neg h3]
      exact ⟨_, rfl⟩
  · rw [if_neg hb]
    exact ⟨_, rfl⟩

/-- A register write touches no CPU register. -/
theorem ioWrite_cpu (s : State) (r : IoReg) (v : Byte) : (ioWrite s r v).cpu = s.cpu := by
  cases r with
  | dma =>
    obtain ⟨m, hm, -⟩ := dmaWrite_shape s v
    exact (congrArg State.cpu hm).trans rfl
  | _ => rfl

/-- A bus write touches no CPU register (R30). -/
theorem memWrite_cpu {s t : State} {a : Word} {v : Byte} (h : memWrite s a v = .ok t) : t.cpu = s.cpu := by
  have h' := memWrite_withCpu s s.cpu a v
  rw [withCpu_cpu, h] at h'
  injection h' with h'
  rw [h']
  rfl

end Sys2Proof.Laws
end

