-- ==== Sys2Proof/Laws/Kept.lean ====
section
/-! SUPPORT. What a bus write keeps (the frame), what reads back, and that it keeps the memories canonical and the
bank indices in range. -/

namespace Sys2Proof.Laws

open Sys2Proof.Machine Sys2Proof.Safety

/-- A location only the mapped register's own address reads: everything but a change of that register. -/
theorem kept_of_same {a : Word} {s t : State} (hb : ∀ b, mayChange a b = false → memRead t b = memRead s b)
    (hc : t.cart = s.cart ∧ t.host = s.host ∧ t.stopped = s.stopped)
    (hj : t.joypad = s.joypad ∨ a = 0xFF00 ∧ ∃ x, t.joypad = { s.joypad with sel := x })
    (hp : t.ppu.phase = s.ppu.phase ∧ t.ppu.dot = s.ppu.dot ∧ t.ppu.line = s.ppu.line ∧ t.ppu.frame = s.ppu.frame)
    (ht : t.timer.overflowPending = s.timer.overflowPending)
    (hd : t.timer.div16 = s.timer.div16 ∨ a = 0xFF04)
    (hm : (t.mmu.romBank = s.mmu.romBank ∧ t.mmu.ramBank = s.mmu.ramBank ∧ t.mmu.ramEnable = s.mmu.ramEnable ∧
      t.mmu.bankMode = s.mmu.bankMode) ∨ isBankCommand a = true)
    (he : ∀ k, (∀ off, busRegion a = .eram off → eramOffset s off ≠ k) → t.mmu.eram.read k = s.mmu.eram.read k) :
    KeptByStores [a] s t where
  bytes b h := hb b (h a (List.mem_singleton.mpr rfl))
  cart := hc.1
  host := hc.2.1
  stopped := hc.2.2
  keys := by
    rcases hj with h | ⟨-, x, h⟩ <;> rw [h]
    · exact ⟨rfl, rfl⟩
    · exact ⟨rfl, rfl⟩
  select h := by
    rcases hj with h' | ⟨h', -⟩
    · rw [h']
    · exact absurd h' (h a (List.mem_singleton.mpr rfl))
  scan := hp
  overflow := ht
  divider h := hd.resolve_right (h a (List.mem_singleton.mpr rfl))
  banks h := hm.resolve_right (by rw [h a (List.mem_singleton.mpr rfl)]; exact Bool.false_ne_true)
  eram k h := he k (h a (List.mem_singleton.mpr rfl))

/-- The registers whose number a statement names (R91). -/
theorem ioReg_number (k : Fin 0x80) :
    (ioReg k = .p1 → k = 0) ∧ (ioReg k = .div → k = 4) ∧ (ioReg k = .stat → k = 0x41) ∧
      (ioReg k = .lyc → k = 0x45) ∧ (ioReg k = .dma → k = 0x46) := by
  revert k
  decide

/-- The address of a register of the window (R91). -/
theorem busRegion_io {a : Word} {r : IoReg} (h : busRegion a = .io r) :
    ∃ k : Fin 0x80, r = ioReg k ∧ a.toNat = 0xFF00 + k.val := by
  simp only [busRegion] at h
  split_ifs at h
  injection h with h
  exact ⟨⟨a.toNat - 0xFF00, by omega⟩, h.symm, by simp only; omega⟩

theorem address_of_io {a : Word} {r : IoReg} {n : Fin 0x80} (h : busRegion a = .io r)
    (hr : ∀ k : Fin 0x80, ioReg k = r → k = n) : a = BitVec.ofNat 16 (0xFF00 + n.val) := by
  obtain ⟨k, hk, ha⟩ := busRegion_io h
  have hn := n.isLt
  apply BitVec.eq_of_toNat_eq
  rw [ha, hr k hk.symm, BitVec.toNat_ofNat]
  omega

theorem address_p1 {a : Word} (h : busRegion a = .io .p1) : a = 0xFF00 :=
  address_of_io h fun k => (ioReg_number k).1

theorem address_div {a : Word} (h : busRegion a = .io .div) : a = 0xFF04 :=
  address_of_io h fun k => (ioReg_number k).2.1

theorem address_stat {a : Word} (h : busRegion a = .io .stat) : a = 0xFF41 :=
  address_of_io h fun k => (ioReg_number k).2.2.1

theorem address_lyc {a : Word} (h : busRegion a = .io .lyc) : a = 0xFF45 :=
  address_of_io h fun k => (ioReg_number k).2.2.2.1

theorem address_dma {a : Word} (h : busRegion a = .io .dma) : a = 0xFF46 :=
  address_of_io h fun k => (ioReg_number k).2.2.2.2

/-- Two states whose registers agree but for one read alike at every other register. -/
theorem regionRead_ioWrite {s : State} {r q : IoReg} {v : Byte} (hq : q ≠ r) (hd : r ≠ .dma)
    (hl : r = .lyc → q ≠ .stat) : ioRead (ioWrite s r v) q = ioRead s q := by
  cases r <;> cases q <;> first
    | exact absurd rfl hd
    | exact absurd rfl hq
    | rfl
    | exact absurd rfl (hl rfl)
    | exact Memory.read_write_of_ne _ _ _ _ (fun h => hq (by rw [h]))

/-- What a register write leaves alone, reading by region (R91). -/
theorem regionRead_of_ioWrite {s : State} {r : IoReg} {v : Byte} (hd : r ≠ .dma) {g : Region}
    (hg : ∀ q, g ≠ .io q) : regionRead (ioWrite s r v) g = regionRead s g := by
  cases r <;> first
    | exact absurd rfl hd
    | (cases g <;> first | rfl | exact absurd rfl (hg _))

/-- The frame of a bus write: what it does not concern is kept (R81 to R107, R113). -/
theorem memWrite_kept {s t : State} {a : Word} {v : Byte} (h : memWrite s a v = .ok t) : KeptByStores [a] s t := by
  simp only [memWrite] at h
  cases hr : busRegion a with
  | rom0 o | romBank o =>
    rw [hr] at h
    have ht := bankCommand_mmu h
    have ha : isBankCommand a = true := by
      rcases busRegion_cases a with h' | h' | h' | h' | h' | h' | h' | h' | h' | h' | h'
      · simp [isBankCommand]; omega
      · simp [isBankCommand]; omega
      all_goals simp [h'.2.2] at hr
    refine kept_of_same ?_ ?_ (.inl ?_) ?_ ?_ (.inl ?_) (.inr ha) (fun k _ => ?_)
    · intro b hb
      simp only [mayChange, hr] at hb
      obtain ⟨h1, h2⟩ := region_of_not_window hb
      rw [ht]
      simp only [memRead]
      cases hg : busRegion b with
      | romBank o => exact absurd hg (h1 o)
      | eram o => exact absurd hg (h2 o)
      | _ => rfl
    all_goals rw [ht]
    · exact ⟨rfl, rfl, rfl⟩
    · exact ⟨rfl, rfl, rfl, rfl⟩
  | vram o | wram o | oam o | hram o | unmapped | ie =>
    rw [hr] at h
    injection h with h
    subst h
    refine kept_of_same ?_ ⟨rfl, rfl, rfl⟩ (.inl rfl) ⟨rfl, rfl, rfl, rfl⟩ rfl (.inl rfl)
      (.inl ⟨rfl, rfl, rfl, rfl⟩) (fun k _ => rfl)
    intro b hb
    simp only [mayChange, hr] at hb
    change regionRead _ (busRegion b) = regionRead _ (busRegion b)
    cases hg : busRegion b <;> (try rw [hg] at hb) <;> first
      | rfl
      | exact Memory.read_write_of_ne _ _ _ _ (fun hc => by simp [hc] at hb)
      | simp at hb
  | eram o =>
    rw [hr] at h
    injection h with h
    simp only [eramWrite] at h
    split at h
    · rename_i hu
      subst h
      refine kept_of_same ?_ ⟨rfl, rfl, rfl⟩ (.inl rfl) ⟨rfl, rfl, rfl, rfl⟩ rfl (.inl rfl)
        (.inl ⟨rfl, rfl, rfl, rfl⟩) (fun k hk => Memory.read_write_of_ne _ _ _ _ (hk o hr).symm)
      intro b hb
      simp only [mayChange, hr] at hb
      simp only [memRead]
      cases hg : busRegion b <;> rw [hg] at hb <;> try rfl
      rename_i o'
      change (if eramUsable s = true then (s.mmu.eram.write (eramOffset s o) v).read (eramOffset s o')
          else eramDisabledRead) =
        (if eramUsable s = true then s.mmu.eram.read (eramOffset s o') else eramDisabledRead)
      rw [if_pos hu, if_pos hu]
      refine Memory.read_write_of_ne _ _ _ _ (fun hc => ?_)
      simp only [eramOffset] at hc
      have : o' = o := by omega
      simp [this] at hb
    · subst h
      exact kept_of_same (fun _ _ => rfl) ⟨rfl, rfl, rfl⟩ (.inl rfl) ⟨rfl, rfl, rfl, rfl⟩ rfl (.inl rfl)
        (.inl ⟨rfl, rfl, rfl, rfl⟩) (fun k _ => rfl)
  | io r =>
    rw [hr] at h
    injection h with h
    by_cases hd : r = .dma
    · subst hd
      obtain ⟨m, hm, -⟩ := dmaWrite_shape s v
      have ht : t = { s with ppu := { s.ppu with dma := v, oam := m } } := by rw [← h, ← hm]; rfl
      subst ht
      refine kept_of_same ?_ ⟨rfl, rfl, rfl⟩ (.inl rfl) ⟨rfl, rfl, rfl, rfl⟩ rfl (.inl rfl)
        (.inl ⟨rfl, rfl, rfl, rfl⟩) (fun k _ => rfl)
      intro b hb
      simp only [mayChange, hr, Bool.or_eq_false_iff, decide_eq_false_iff_not] at hb
      have ho := region_of_not_sprite hb.2
      simp only [memRead]
      cases hg : busRegion b with
      | oam o => exact absurd hg (ho o)
      | io q =>
        cases q with
        | dma => exact absurd (address_dma hg) hb.1
        | _ => rfl
      | _ => rfl
    · have hkeep : t.cart = s.cart ∧ t.host = s.host ∧ t.stopped = s.stopped ∧
          (t.ppu.phase = s.ppu.phase ∧ t.ppu.dot = s.ppu.dot ∧ t.ppu.line = s.ppu.line ∧
            t.ppu.frame = s.ppu.frame) ∧ t.timer.overflowPending = s.timer.overflowPending ∧
          (t.mmu.romBank = s.mmu.romBank ∧ t.mmu.ramBank = s.mmu.ramBank ∧ t.mmu.ramEnable = s.mmu.ramEnable ∧
            t.mmu.bankMode = s.mmu.bankMode) ∧ t.mmu.eram = s.mmu.eram ∧
          (t.joypad = s.joypad ∨ r = .p1 ∧ ∃ x, t.joypad = { s.joypad with sel := x }) ∧
          (t.timer.div16 = s.timer.div16 ∨ r = .div) := by
        subst h
        cases r <;> first
          | exact absurd rfl hd
          | exact ⟨rfl, rfl, rfl, ⟨rfl, rfl, rfl, rfl⟩, rfl, ⟨rfl, rfl, rfl, rfl⟩, rfl, .inl rfl, .inl rfl⟩
          | exact ⟨rfl, rfl, rfl, ⟨rfl, rfl, rfl, rfl⟩, rfl, ⟨rfl, rfl, rfl, rfl⟩, rfl, .inr ⟨rfl, _, rfl⟩, .inl rfl⟩
          | exact ⟨rfl, rfl, rfl, ⟨rfl, rfl, rfl, rfl⟩, rfl, ⟨rfl, rfl, rfl, rfl⟩, rfl, .inl rfl, .inr rfl⟩
      obtain ⟨h1, h2, h3, h4, h5, h6, h7, h8, h9⟩ := hkeep
      refine kept_of_same ?_ ⟨h1, h2, h3⟩ (h8.imp_right fun ⟨hp, hx⟩ => ⟨address_p1 (by rw [hr, hp]), hx⟩) h4 h5
        (h9.imp_right fun hp => address_div (by rw [hr, hp])) (.inl h6) (fun k _ => by rw [h7])
      intro b hb
      subst h
      simp only [memRead]
      cases hg : busRegion b with
      | io q =>
        by_cases hq : q = r
        · subst hq
          cases q <;> first
            | exact absurd rfl hd
            | (simp [mayChange, hr, hg] at hb; done)
            | simp [mayChange, hr, address_lyc hg] at hb
            | rfl
        · refine regionRead_ioWrite hq hd (fun hl hs => ?_)
          subst hl hs
          simp [mayChange, hr, address_stat hg] at hb
      | _ => exact regionRead_of_ioWrite hd (fun q hq => nomatch hq)

end Sys2Proof.Laws
end

