-- ==== Sys2Proof/Laws/Stores.lean ====
section
/-! SUPPORT. The bus writes as an instruction uses them: the byte reads back, the memories stay canonical, the bank
indices stay in range; then the two-byte write, the push, and the two shapes of a storing instruction. -/

namespace Sys2Proof.Laws

open Sys2Proof.Machine Sys2Proof.Safety

/-- A location that keeps its byte reads back the byte written (R46 to R60, R81 to R96). -/
theorem memRead_memWrite_same {s t : State} {a : Word} {v : Byte} (hm : Canonical s)
    (hk : keepsByte s a = true) (h : memWrite s a v = .ok t) : memRead t a = v := by
  simp only [memWrite] at h
  simp only [keepsByte] at hk
  simp only [memRead]
  cases hr : busRegion a with
  | rom0 o | romBank o => simp [hr] at hk
  | unmapped | ie => simp [hr] at hk
  | vram o =>
    rw [hr] at h
    injection h with h
    subst h
    exact Memory.read_write_same _ _ hm.vram
  | wram o =>
    rw [hr] at h
    injection h with h
    subst h
    exact Memory.read_write_same _ _ hm.wram
  | oam o =>
    rw [hr] at h
    injection h with h
    subst h
    exact Memory.read_write_same _ _ hm.oam
  | hram o =>
    rw [hr] at h
    injection h with h
    subst h
    exact Memory.read_write_same _ _ hm.hram
  | eram o =>
    rw [hr] at h hk
    have hu : eramUsable s = true := hk
    injection h with h
    rw [eramWrite, if_pos hu] at h
    subst h
    change (if eramUsable s = true then (s.mmu.eram.write (eramOffset s o) v).read (eramOffset s o)
      else eramDisabledRead) = v
    rw [if_pos hu]
    exact Memory.read_write_same _ _ hm.eram
  | io r =>
    rw [hr] at h hk
    injection h with h
    subst h
    cases r with
    | dma =>
      obtain ⟨m, hw, -⟩ := dmaWrite_shape s v
      change ioRead (dmaWrite s v) .dma = v
      rw [hw]
      rfl
    | audio o => exact Memory.read_write_same _ _ hm.audio
    | p1 | div | tac | irq | stat | ly | unmapped => simp at hk
    | _ => rfl

/-- A memory of size `n` keeps its size under a write below `n`. -/
theorem sized_write {n k : Nat} {m : Memory} (v : Byte) (hk : k < n) (h : offsetsBelow n m = true) :
    offsetsBelow n (m.write k v) = true := by
  simp only [offsetsBelow, List.all_eq_true, decide_eq_true_eq] at h ⊢
  intro e he
  rcases mem_storeSet _ he with he | he
  · exact h e he
  · rw [he]
    exact hk

/-- The offsets of the regions are inside their memories (R81). -/
theorem region_offset (a : Word) :
    (∀ o, busRegion a = .vram o → o < 0x2000) ∧ (∀ o, busRegion a = .eram o → o < 0x2000) ∧
      (∀ o, busRegion a = .wram o → o < 0x2000) ∧ (∀ o, busRegion a = .oam o → o < 0xA0) ∧
      (∀ o, busRegion a = .hram o → o < 0x7F) ∧ (∀ o, busRegion a = .io (.audio o) → o < 0x30) := by
  have haud : ∀ k : Fin 0x80, ∀ o, ioReg k = .audio o → o < 0x30 := by
    have hall : ∀ k : Fin 0x80, (match ioReg k with | .audio o => decide (o < 0x30) | _ => true) = true := by
      decide
    intro k o h
    have hk := hall k
    rw [h] at hk
    exact of_decide_eq_true hk
  refine ⟨?_, ?_, ?_, ?_, ?_, fun o h => ?_⟩
  case refine_6 =>
    obtain ⟨k, hk, -⟩ := busRegion_io h
    exact haud k o hk.symm
  all_goals
    intro o h
    rcases busRegion_cases a with h' | h' | h' | h' | h' | h' | h' | h' | h' | h' | h' <;>
      first
        | (simp [h'.2] at h; done)
        | (simp [h'.2.2] at h; done)
        | (rw [h'.2.2] at h; injection h with h; omega)

/-- A bus write keeps the memories canonical. -/
theorem memWrite_canonical {s t : State} {a : Word} {v : Byte} (hm : Canonical s) (h : memWrite s a v = .ok t) :
    Canonical t := by
  simp only [memWrite] at h
  cases hr : busRegion a with
  | rom0 o | romBank o =>
    rw [hr] at h
    rw [bankCommand_mmu h]
    exact ⟨hm.vram, hm.oam, hm.wram, hm.hram, hm.audio, hm.eram⟩
  | vram o =>
    rw [hr] at h
    injection h with h
    subst h
    exact ⟨Memory.wf_write _ _ hm.vram, hm.oam, hm.wram, hm.hram, hm.audio, hm.eram⟩
  | wram o =>
    rw [hr] at h
    injection h with h
    subst h
    exact ⟨hm.vram, hm.oam, Memory.wf_write _ _ hm.wram, hm.hram, hm.audio, hm.eram⟩
  | oam o =>
    rw [hr] at h
    injection h with h
    subst h
    exact ⟨hm.vram, Memory.wf_write _ _ hm.oam, hm.wram, hm.hram, hm.audio, hm.eram⟩
  | hram o =>
    rw [hr] at h
    injection h with h
    subst h
    exact ⟨hm.vram, hm.oam, hm.wram, Memory.wf_write _ _ hm.hram, hm.audio, hm.eram⟩
  | unmapped | ie =>
    rw [hr] at h
    injection h with h
    subst h
    exact ⟨hm.vram, hm.oam, hm.wram, hm.hram, hm.audio, hm.eram⟩
  | eram o =>
    rw [hr] at h
    injection h with h
    rw [eramWrite] at h
    split at h
    · rename_i hu
      subst h
      exact ⟨hm.vram, hm.oam, hm.wram, hm.hram, hm.audio, Memory.wf_write _ _ hm.eram⟩
    · subst h
      exact hm
  | io r =>
    rw [hr] at h
    injection h with h
    subst h
    cases r with
    | dma =>
      obtain ⟨m, hw, h1, h2⟩ := dmaWrite_shape s v
      change Canonical (dmaWrite s v)
      rw [hw]
      exact ⟨hm.vram, h1 hm.oam, hm.wram, hm.hram, hm.audio, hm.eram⟩
    | audio o => exact ⟨hm.vram, hm.oam, hm.wram, hm.hram, Memory.wf_write _ _ hm.audio, hm.eram⟩
    | _ => exact ⟨hm.vram, hm.oam, hm.wram, hm.hram, hm.audio, hm.eram⟩

/-- A bus write keeps the memories inside their sizes (R62). -/
theorem memWrite_sized {s t : State} {a : Word} {v : Byte} (hm : Sized s)
    (hb : s.mmu.ramBank.toNat < max s.cart.ramBanks 1) (h : memWrite s a v = .ok t) : Sized t := by
  obtain ⟨o1, o2, o3, o4, o5, o6⟩ := region_offset a
  simp only [memWrite] at h
  cases hr : busRegion a with
  | rom0 o | romBank o =>
    rw [hr] at h
    rw [bankCommand_mmu h]
    exact ⟨hm.vram, hm.oam, hm.wram, hm.hram, hm.audio, hm.eram⟩
  | vram o =>
    rw [hr] at h
    injection h with h
    subst h
    exact ⟨sized_write v (o1 o hr) hm.vram, hm.oam, hm.wram, hm.hram, hm.audio, hm.eram⟩
  | wram o =>
    rw [hr] at h
    injection h with h
    subst h
    exact ⟨hm.vram, hm.oam, sized_write v (o3 o hr) hm.wram, hm.hram, hm.audio, hm.eram⟩
  | oam o =>
    rw [hr] at h
    injection h with h
    subst h
    exact ⟨hm.vram, sized_write v (o4 o hr) hm.oam, hm.wram, hm.hram, hm.audio, hm.eram⟩
  | hram o =>
    rw [hr] at h
    injection h with h
    subst h
    exact ⟨hm.vram, hm.oam, hm.wram, sized_write v (o5 o hr) hm.hram, hm.audio, hm.eram⟩
  | unmapped | ie =>
    rw [hr] at h
    injection h with h
    subst h
    exact ⟨hm.vram, hm.oam, hm.wram, hm.hram, hm.audio, hm.eram⟩
  | eram o =>
    rw [hr] at h
    injection h with h
    rw [eramWrite] at h
    split at h
    · rename_i hu
      subst h
      simp only [eramUsable, Bool.and_eq_true, decide_eq_true_eq] at hu
      refine ⟨hm.vram, hm.oam, hm.wram, hm.hram, hm.audio, sized_write v ?_ hm.eram⟩
      have h2 := o2 o hr
      have h3 : s.mmu.ramBank.toNat + 1 ≤ s.cart.ramBanks := by omega
      have h4 := Nat.mul_le_mul_right 0x2000 h3
      simp only [eramOffset, Config.ramBankBytes]
      omega
    · subst h
      exact hm
  | io r =>
    rw [hr] at h
    injection h with h
    subst h
    cases r with
    | dma =>
      obtain ⟨m, hw, h1, h2⟩ := dmaWrite_shape s v
      change Sized (dmaWrite s v)
      rw [hw]
      exact ⟨hm.vram, h2 hm.oam, hm.wram, hm.hram, hm.audio, hm.eram⟩
    | audio o => exact ⟨hm.vram, hm.oam, hm.wram, hm.hram, sized_write v (o6 o hr) hm.audio, hm.eram⟩
    | _ => exact ⟨hm.vram, hm.oam, hm.wram, hm.hram, hm.audio, hm.eram⟩

/-- A bus write keeps the bank indices in range (R101, R102, R105). -/
theorem memWrite_banks {s t : State} {a : Word} {v : Byte} (hb : BanksInv s) (h : memWrite s a v = .ok t) :
    BanksInv t := by
  have hk := memWrite_kept h
  by_cases ha : a.toNat ≤ 0x7FFF
  · have hcmd : bankCommand s a v = .ok t := by
      rw [← h]
      simp only [memWrite]
      rcases busRegion_cases a with h' | h' | h' | h' | h' | h' | h' | h' | h' | h' | h'
      · rw [h'.2]
      · rw [h'.2.2]
      all_goals omega
    rcases bankCommand_ok hcmd with h | ⟨_, h⟩ | ⟨hlt, h⟩ | ⟨hlt, h⟩ | ⟨b, hlt, h⟩ | ⟨_, h⟩ <;> subst h
    · exact hb
    · exact ⟨hb.romLow, hb.romHigh, hb.ram⟩
    · refine ⟨?_, hlt, hb.ram⟩
      change 1 ≤ (romBankLowCand s v).toNat % 32
      rw [romBankLowCand_toNat, lowCandidate]
      split <;> omega
    · refine ⟨?_, hlt, hb.ram⟩
      change 1 ≤ (romBankHighCand s v).toNat % 32
      rw [romBankHighCand_toNat, highCandidate]
      have := hb.romLow
      omega
    · exact ⟨hb.romLow, hb.romHigh, hlt⟩
    · exact ⟨hb.romLow, hb.romHigh, hb.ram⟩
  · have h' := hk.banks (fun x hx => by
      rw [List.mem_singleton.mp hx]
      simpa [isBankCommand] using ha)
    refine ⟨?_, ?_, ?_⟩
    · rw [h'.1]
      exact hb.romLow
    · rw [h'.1, hk.cart]
      exact hb.romHigh
    · rw [h'.2.1, hk.cart]
      exact hb.ram

/-- The frame does not speak of the CPU. -/
theorem kept_withCpu {l : List Word} {s t : State} (k k' : Cpu) (h : KeptByStores l s t) :
    KeptByStores l (s.withCpu k) (t.withCpu k') :=
  ⟨fun b hb => by simpa using h.bytes b hb, h.cart, h.host, h.stopped, h.keys, h.select, h.scan, h.overflow,
    h.divider, h.banks, h.eram⟩

/-- Two stores, one after the other. -/
theorem kept_trans {a b : Word} {s t u : State} (h1 : KeptByStores [a] s t) (h2 : KeptByStores [b] t u)
    (hab : isBankCommand a = true → ∀ off, busRegion b ≠ .eram off) : KeptByStores [a, b] s u where
  bytes x hx := by
    rw [h2.bytes x (fun y hy => hx y (by simp_all)), h1.bytes x (fun y hy => hx y (by simp_all))]
  cart := h2.cart.trans h1.cart
  host := h2.host.trans h1.host
  stopped := h2.stopped.trans h1.stopped
  keys := ⟨h2.keys.1.trans h1.keys.1, h2.keys.2.trans h1.keys.2⟩
  select hx := (h2.select fun y hy => hx y (by simp_all)).trans (h1.select fun y hy => hx y (by simp_all))
  scan := ⟨h2.scan.1.trans h1.scan.1, h2.scan.2.1.trans h1.scan.2.1, h2.scan.2.2.1.trans h1.scan.2.2.1,
    h2.scan.2.2.2.trans h1.scan.2.2.2⟩
  overflow := h2.overflow.trans h1.overflow
  divider hx := (h2.divider fun y hy => hx y (by simp_all)).trans (h1.divider fun y hy => hx y (by simp_all))
  banks hx := by
    have e1 := h1.banks fun y hy => hx y (by simp_all)
    have e2 := h2.banks fun y hy => hx y (by simp_all)
    exact ⟨e2.1.trans e1.1, e2.2.1.trans e1.2.1, e2.2.2.1.trans e1.2.2.1, e2.2.2.2.trans e1.2.2.2⟩
  eram k hk := by
    rw [h2.eram k, h1.eram k (fun y hy => hk y (by simp_all))]
    intro y hy off hoff
    rw [List.mem_singleton.mp hy] at hoff
    have hna : isBankCommand a = false := by
      by_contra hc
      exact hab (by simpa using hc) off hoff
    have hr := (h1.banks fun z hz => by rw [List.mem_singleton.mp hz]; exact hna).2.1
    have := hk b (by simp) off hoff
    rwa [eramOffset, hr]

/-- The address after a bank command's is not in external RAM. -/
theorem not_eram_after_rom {a : Word} (h : isBankCommand a = true) : ∀ off, busRegion (a + 1) ≠ .eram off := by
  intro off hoff
  simp only [isBankCommand, decide_eq_true_eq] at h
  have ha : (a + 1).toNat = a.toNat + 1 := by
    rw [BitVec.toNat_add]
    simp
    omega
  generalize a + 1 = b at hoff ha
  rcases busRegion_cases b with h' | h' | h' | h' | h' | h' | h' | h' | h' | h' | h' <;>
    first
      | (simp [h'.2] at hoff; done)
      | (simp [h'.2.2] at hoff; done)
      | omega

/-- The two-byte write as two writes (R14). -/
theorem memWrite16_ok {s u : State} {a v : Word} (h : memWrite16 s a v = .ok u) :
    ∃ t, memWrite s a (loByte v) = .ok t ∧ memWrite t (a + 1) (hiByte v) = .ok u := by
  simp only [memWrite16] at h
  split at h
  · cases h
  · exact ⟨_, by assumption, h⟩

theorem memWrite16_of_rejected {s : State} {a v : Word} {k : Nat} (h : rejectedBank16 s a v = some k) :
    memWrite16 s a v = .error (.bankIndexOutOfRange k) := by
  simp only [rejectedBank16] at h
  split at h
  · rename_i k' hk
    injection h with h
    rw [memWrite16, memWrite_of_rejected hk, h]
  · rename_i hn
    obtain ⟨t, ht⟩ := memWrite_of_accepted hn
    rw [ht] at h
    simp only [memWrite16, ht]
    exact memWrite_of_rejected h

theorem memWrite16_of_accepted {s : State} {a v : Word} (h : rejectedBank16 s a v = none) :
    ∃ u, memWrite16 s a v = .ok u := by
  simp only [rejectedBank16] at h
  split at h
  · cases h
  · rename_i hn
    obtain ⟨t, ht⟩ := memWrite_of_accepted hn
    rw [ht] at h
    simp only [memWrite16, ht]
    exact memWrite_of_accepted h

theorem memWrite16_kept {s u : State} {a v : Word} (h : memWrite16 s a v = .ok u) :
    KeptByStores [a, a + 1] s u ∧ u.cpu = s.cpu := by
  obtain ⟨t, h1, h2⟩ := memWrite16_ok h
  exact ⟨kept_trans (memWrite_kept h1) (memWrite_kept h2) not_eram_after_rom, (memWrite_cpu h2).trans (memWrite_cpu h1)⟩

theorem memWrite16_invariants {s u : State} {a v : Word} (hm : Canonical s) (hz : Sized s) (hb : BanksInv s)
    (h : memWrite16 s a v = .ok u) : Canonical u ∧ Sized u ∧ BanksInv u := by
  obtain ⟨t, h1, h2⟩ := memWrite16_ok h
  have hb1 := memWrite_banks hb h1
  exact ⟨memWrite_canonical (memWrite_canonical hm h1) h2, memWrite_sized (memWrite_sized hz hb.ram h1) hb1.ram h2,
    memWrite_banks hb1 h2⟩

end Sys2Proof.Laws
end

