-- ==== Sys2Proof/Laws/Exec.lean ====
section
/-! SUPPORT. Everything an instruction can do, said once: it replaces the CPU, after at most one bus write of one or
two bytes, at a cost of one to six machine cycles; and the introduction rules of the two storing shapes. -/

namespace Sys2Proof.Laws

open Sys2Proof.Machine Sys2Proof.Safety

/-- What a result can be when it is a next state. -/
def Shape (s : State) (r : Result) : Prop :=
  ∀ t, r = .next t → (1 ≤ t.cpu.mcycles ∧ t.cpu.mcycles ≤ 6) ∧
    ∃ u, t = u.withCpu t.cpu ∧ (u = s ∨ (∃ a v, memWrite s a v = .ok u) ∨ ∃ a v, memWrite16 s a v = .ok u)

theorem shape_cpu {s : State} {k : Cpu} (h1 : 1 ≤ k.mcycles) (h6 : k.mcycles ≤ 6) :
    Shape s (.next (s.withCpu k)) := by
  intro t ht
  injection ht with ht
  subst ht
  exact ⟨⟨h1, h6⟩, s, rfl, .inl rfl⟩

theorem shape_fault {s : State} {f : Fault} : Shape s (.fault f) := fun _ h => nomatch h

theorem shape_write {s : State} {a : Word} {v : Byte} {g : State → Cpu} (h1 : ∀ t, 1 ≤ (g t).mcycles)
    (h6 : ∀ t, (g t).mcycles ≤ 6) : Shape s (afterWrite (memWrite s a v) fun t => t.withCpu (g t)) := by
  intro t ht
  cases hw : memWrite s a v with
  | error f =>
    rw [hw] at ht
    cases ht
  | ok u =>
    rw [hw] at ht
    injection ht with ht
    subst ht
    exact ⟨⟨h1 u, h6 u⟩, u, rfl, .inr (.inl ⟨a, v, hw⟩)⟩

theorem shape_write16 {s : State} {a v : Word} {g : State → Cpu} (h1 : ∀ t, 1 ≤ (g t).mcycles)
    (h6 : ∀ t, (g t).mcycles ≤ 6) : Shape s (afterWrite (memWrite16 s a v) fun t => t.withCpu (g t)) := by
  intro t ht
  cases hw : memWrite16 s a v with
  | error f =>
    rw [hw] at ht
    cases ht
  | ok u =>
    rw [hw] at ht
    injection ht with ht
    subst ht
    exact ⟨⟨h1 u, h6 u⟩, u, rfl, .inr (.inr ⟨a, v, hw⟩)⟩

/-- The push as a two-byte write below SP (R16). -/
theorem push16_eq (s : State) (v : Word) :
    push16 s v = (memWrite16 s (s.cpu.sp - 2) v).map (·.withCpu { s.cpu with sp := s.cpu.sp - 2 }) :=
  memWrite16_withCpu s _ _ v

theorem shape_push {s : State} {v : Word} {g : Cpu → Cpu} (h1 : ∀ k, 1 ≤ (g k).mcycles)
    (h6 : ∀ k, (g k).mcycles ≤ 6) : Shape s (afterWrite (push16 s v) fun t => t.withCpu (g t.cpu)) := by
  intro t ht
  rw [push16_eq] at ht
  cases hw : memWrite16 s (s.cpu.sp - 2) v with
  | error f =>
    rw [hw] at ht
    cases ht
  | ok u =>
    rw [hw] at ht
    injection ht with ht
    subst ht
    exact ⟨⟨h1 _, h6 _⟩, u, rfl, .inr (.inr ⟨_, _, hw⟩)⟩

/-- An instruction that is one bus write and a change of the CPU has the shape of a byte store. -/
theorem storesByte_intro {i : Instr} {s : State} {a : Word} {v : Byte} (g : Cpu → Cpu)
    (h : exec i s = afterWrite (memWrite s a v) fun t => t.withCpu (g t.cpu)) : StoresByte i s a v (g s.cpu) := by
  refine ⟨fun hn => ?_, fun k hk => by rw [h, memWrite_of_rejected hk]; rfl⟩
  obtain ⟨t, ht⟩ := memWrite_of_accepted hn
  refine ⟨t, ht, by rw [h, ht, ← memWrite_cpu ht]; rfl, ?_, fun hm hk => ?_⟩
  · exact kept_withCpu s.cpu _ (memWrite_kept ht)
  · rw [memRead_withCpu]
    exact memRead_memWrite_same hm hk ht

/-- The address after one that keeps its byte is no bank command's. -/
theorem not_bankCommand_of_keeps {s : State} {a : Word} (h : keepsByte s a = true) : isBankCommand a = false := by
  rcases busRegion_cases a with h' | h' | h' | h' | h' | h' | h' | h' | h' | h' | h'
  · simp [keepsByte, h'.2] at h
  · simp [keepsByte, h'.2.2] at h
  all_goals
    simp only [isBankCommand, decide_eq_false_iff_not]
    omega

/-- Whether a location keeps its byte is decided by the address, the cartridge and the RAM enable. -/
theorem keepsByte_congr {s t : State} (hc : t.cart = s.cart) (he : t.mmu.ramEnable = s.mmu.ramEnable) (a : Word) :
    keepsByte t a = keepsByte s a := by
  simp only [keepsByte, hc, he]

/-- A two-byte write: as `storesByte_intro`. -/
theorem storesWord_of_write16 {i : Instr} {s : State} {a v : Word} {k : Cpu}
    (h : ∀ t, memWrite16 s a v = .ok t → exec i s = .next (t.withCpu k))
    (he : ∀ f, memWrite16 s a v = .error f → exec i s = .fault f) : StoresWord i s a v k := by
  refine ⟨fun hn => ?_, fun k hk => he _ (memWrite16_of_rejected hk)⟩
  obtain ⟨u, hu⟩ := memWrite16_of_accepted hn
  obtain ⟨t, h1, h2⟩ := memWrite16_ok hu
  refine ⟨u, hu, h u hu, kept_withCpu s.cpu _ (memWrite16_kept hu).1, fun hm hk hne => ?_, fun hm hk hk' => ?_⟩
  · rw [memRead_withCpu, (memWrite_kept h2).bytes a (fun b hb => by rw [List.mem_singleton.mp hb]; exact hne)]
    exact memRead_memWrite_same hm hk h1
  · rw [memRead_withCpu]
    have hb := (memWrite_kept h1).banks fun b hb => by
      rw [List.mem_singleton.mp hb]
      exact not_bankCommand_of_keeps hk
    refine memRead_memWrite_same (memWrite_canonical hm h1) ?_ h2
    rw [keepsByte_congr (memWrite_kept h1).cart hb.2.2.1]
    exact hk'

theorem storesWord_intro {i : Instr} {s : State} {a v : Word} (g : Cpu → Cpu)
    (h : exec i s = afterWrite (memWrite16 s a v) fun t => t.withCpu (g t.cpu)) : StoresWord i s a v (g s.cpu) :=
  storesWord_of_write16 (fun t ht => by rw [h, ht, ← (memWrite16_kept ht).2]; rfl) (fun f hf => by rw [h, hf]; rfl)

/-- A push: as `storesByte_intro`, the address two below SP. -/
theorem storesWord_of_push {i : Instr} {s : State} {v : Word} (g : Cpu → Cpu)
    (h : exec i s = afterWrite (push16 s v) fun t => t.withCpu (g t.cpu)) :
    StoresWord i s (s.cpu.sp - 2) v (g { s.cpu with sp := s.cpu.sp - 2 }) :=
  storesWord_of_write16 (fun t ht => by rw [h, push16_eq, ht]; rfl) (fun f hf => by rw [h, push16_eq, hf]; rfl)

theorem shape_ldRegReg (dst r : Reg) (s : State) : Shape s (ldRegReg dst r s) := shape_cpu (Nat.le_of_ble_eq_true rfl) (Nat.le_of_ble_eq_true rfl)

theorem shape_ldRegImm (dst : Reg) (n : Byte) (s : State) : Shape s (ldRegImm dst n s) := shape_cpu (Nat.le_of_ble_eq_true rfl) (Nat.le_of_ble_eq_true rfl)

theorem shape_ldRegMem (dst : Reg) (s : State) : Shape s (ldRegMem dst s) := shape_cpu (Nat.le_of_ble_eq_true rfl) (Nat.le_of_ble_eq_true rfl)

theorem shape_loadAStep (w : Word) (s : State) : Shape s (loadAStep w s) := shape_cpu (Nat.le_of_ble_eq_true rfl) (Nat.le_of_ble_eq_true rfl)

theorem shape_ldPairImm (p : Pair) (nn : Word) (s : State) : Shape s (ldPairImm p nn s) := shape_cpu (Nat.le_of_ble_eq_true rfl) (Nat.le_of_ble_eq_true rfl)

theorem shape_ldSpHl (s : State) : Shape s (ldSpHl s) := shape_cpu (Nat.le_of_ble_eq_true rfl) (Nat.le_of_ble_eq_true rfl)

theorem shape_ldHlSp (n : Byte) (s : State) : Shape s (ldHlSp n s) := shape_cpu (Nat.le_of_ble_eq_true rfl) (Nat.le_of_ble_eq_true rfl)

theorem shape_popPair (p : StackPair) (s : State) : Shape s (popPair p s) := shape_cpu (Nat.le_of_ble_eq_true rfl) (Nat.le_of_ble_eq_true rfl)

theorem shape_aluReg (op : AluOp) (r : Reg) (s : State) : Shape s (aluReg op r s) := shape_cpu (Nat.le_of_ble_eq_true rfl) (Nat.le_of_ble_eq_true rfl)

theorem shape_aluMem (op : AluOp) (s : State) : Shape s (aluMem op s) := shape_cpu (Nat.le_of_ble_eq_true rfl) (Nat.le_of_ble_eq_true rfl)

theorem shape_aluImm (op : AluOp) (n : Byte) (s : State) : Shape s (aluImm op n s) := shape_cpu (Nat.le_of_ble_eq_true rfl) (Nat.le_of_ble_eq_true rfl)

theorem shape_incReg (dst : Reg) (s : State) : Shape s (incReg dst s) := shape_cpu (Nat.le_of_ble_eq_true rfl) (Nat.le_of_ble_eq_true rfl)

theorem shape_decReg (dst : Reg) (s : State) : Shape s (decReg dst s) := shape_cpu (Nat.le_of_ble_eq_true rfl) (Nat.le_of_ble_eq_true rfl)

theorem shape_adjustA (af : Byte × Flags) (s : State) : Shape s (adjustA af s) := shape_cpu (Nat.le_of_ble_eq_true rfl) (Nat.le_of_ble_eq_true rfl)

theorem shape_addHl (p : Pair) (s : State) : Shape s (addHl p s) := shape_cpu (Nat.le_of_ble_eq_true rfl) (Nat.le_of_ble_eq_true rfl)

theorem shape_stepPair (p : Pair) (w : Word) (s : State) : Shape s (stepPair p w s) := shape_cpu (Nat.le_of_ble_eq_true rfl) (Nat.le_of_ble_eq_true rfl)

theorem shape_addSp (n : Byte) (s : State) : Shape s (addSp n s) := shape_cpu (Nat.le_of_ble_eq_true rfl) (Nat.le_of_ble_eq_true rfl)

theorem shape_rotA (op : RotOp) (s : State) : Shape s (rotA op s) := shape_cpu (Nat.le_of_ble_eq_true rfl) (Nat.le_of_ble_eq_true rfl)

theorem shape_rotReg (op : RotOp) (r : Reg) (s : State) : Shape s (rotReg op r s) := shape_cpu (Nat.le_of_ble_eq_true rfl) (Nat.le_of_ble_eq_true rfl)

theorem shape_bitReg (b : Fin 8) (r : Reg) (s : State) : Shape s (bitReg b r s) := shape_cpu (Nat.le_of_ble_eq_true rfl) (Nat.le_of_ble_eq_true rfl)

theorem shape_bitMem (b : Fin 8) (s : State) : Shape s (bitMem b s) := shape_cpu (Nat.le_of_ble_eq_true rfl) (Nat.le_of_ble_eq_true rfl)

theorem shape_resReg (b : Fin 8) (r : Reg) (s : State) : Shape s (resReg b r s) := shape_cpu (Nat.le_of_ble_eq_true rfl) (Nat.le_of_ble_eq_true rfl)

theorem shape_setReg (b : Fin 8) (r : Reg) (s : State) : Shape s (setReg b r s) := shape_cpu (Nat.le_of_ble_eq_true rfl) (Nat.le_of_ble_eq_true rfl)

theorem shape_nothing (s : State) : Shape s (nothing s) := shape_cpu (Nat.le_of_ble_eq_true rfl) (Nat.le_of_ble_eq_true rfl)

theorem shape_enterHalt (s : State) : Shape s (enterHalt s) := shape_cpu (Nat.le_of_ble_eq_true rfl) (Nat.le_of_ble_eq_true rfl)

theorem shape_setIme (v : Bool) (s : State) : Shape s (setIme v s) := shape_cpu (Nat.le_of_ble_eq_true rfl) (Nat.le_of_ble_eq_true rfl)

theorem shape_retInterrupt (s : State) : Shape s (retInterrupt s) := shape_cpu (Nat.le_of_ble_eq_true rfl) (Nat.le_of_ble_eq_true rfl)

theorem shape_ldMemReg (r : Reg) (s : State) : Shape s (ldMemReg r s) := shape_write (fun _ => Nat.le_of_ble_eq_true rfl) (fun _ => Nat.le_of_ble_eq_true rfl)

theorem shape_storeAStep (w : Word) (s : State) : Shape s (storeAStep w s) := shape_write (fun _ => Nat.le_of_ble_eq_true rfl) (fun _ => Nat.le_of_ble_eq_true rfl)

theorem shape_incMem (s : State) : Shape s (incMem s) := shape_write (fun _ => Nat.le_of_ble_eq_true rfl) (fun _ => Nat.le_of_ble_eq_true rfl)

theorem shape_decMem (s : State) : Shape s (decMem s) := shape_write (fun _ => Nat.le_of_ble_eq_true rfl) (fun _ => Nat.le_of_ble_eq_true rfl)

theorem shape_rotMem (op : RotOp) (s : State) : Shape s (rotMem op s) := shape_write (fun _ => Nat.le_of_ble_eq_true rfl) (fun _ => Nat.le_of_ble_eq_true rfl)

theorem shape_resMem (b : Fin 8) (s : State) : Shape s (resMem b s) := shape_write (fun _ => Nat.le_of_ble_eq_true rfl) (fun _ => Nat.le_of_ble_eq_true rfl)

theorem shape_setMem (b : Fin 8) (s : State) : Shape s (setMem b s) := shape_write (fun _ => Nat.le_of_ble_eq_true rfl) (fun _ => Nat.le_of_ble_eq_true rfl)

theorem shape_storeSp (nn : Word) (s : State) : Shape s (storeSp nn s) := shape_write16 (fun _ => Nat.le_of_ble_eq_true rfl) (fun _ => Nat.le_of_ble_eq_true rfl)

theorem shape_loadA (a len : Word) (m : Nat) (s : State) (h1 : 1 ≤ m) (h6 : m ≤ 6) : Shape s (loadA a len m s) := shape_cpu h1 h6

theorem shape_storeByte (a : Word) (v : Byte) (len : Word) (m : Nat) (s : State) (h1 : 1 ≤ m) (h6 : m ≤ 6) : Shape s (storeByte a v len m s) := shape_write (fun _ => h1) (fun _ => h6)

theorem shape_jumpTo (w : Word) (m : Nat) (s : State) (h1 : 1 ≤ m) (h6 : m ≤ 6) : Shape s (jumpTo w m s) := shape_cpu h1 h6

theorem shape_retTo (m : Nat) (s : State) (h1 : 1 ≤ m) (h6 : m ≤ 6) : Shape s (retTo m s) := shape_cpu h1 h6

theorem shape_pushPair (p : StackPair) (s : State) : Shape s (pushPair p s) := shape_push (g := fun k => k.retire 1 4) (fun _ => Nat.le_of_ble_eq_true rfl) (fun _ => Nat.le_of_ble_eq_true rfl)

theorem shape_callTo (w len : Word) (m : Nat) (s : State) (h1 : 1 ≤ m) (h6 : m ≤ 6) : Shape s (callTo w len m s) := shape_push (g := fun k => k.jump w m) (fun _ => h1) (fun _ => h6)

theorem shape_jumpCond (cc : Cond) (w len : Word) (m mt : Nat) (s : State) (h1 : 1 ≤ m) (h6 : m ≤ 6) (g1 : 1 ≤ mt)
    (g6 : mt ≤ 6) : Shape s (jumpCond cc w len m mt s) := by
  unfold jumpCond
  split
  · exact shape_jumpTo w mt s g1 g6
  · exact shape_cpu h1 h6

theorem shape_callCond (cc : Cond) (w : Word) (s : State) : Shape s (callCond cc w s) := by
  unfold callCond
  split
  · exact shape_callTo w 3 6 s (by decide) (by decide)
  · exact shape_cpu (Nat.le_of_ble_eq_true rfl) (Nat.le_of_ble_eq_true rfl)

theorem shape_retCond (cc : Cond) (s : State) : Shape s (retCond cc s) := by
  unfold retCond
  split
  · exact shape_retTo 5 s (by decide) (by decide)
  · exact shape_cpu (Nat.le_of_ble_eq_true rfl) (Nat.le_of_ble_eq_true rfl)

theorem shape_execExtended (b : Byte) (s : State) : Shape s (execExtended b s) := by
  unfold execExtended
  simp only []
  split
  · split
    · exact shape_rotReg _ _ s
    split
    · exact shape_bitReg _ _ s
    split
    · exact shape_resReg _ _ s
    · exact shape_setReg _ _ s
  · split
    · exact shape_rotMem _ s
    split
    · exact shape_bitMem _ s
    split
    · exact shape_resMem _ s
    · exact shape_setMem _ s

theorem shape_reservedOpcode (b : Byte) (s : State) : Shape s (reservedOpcode b s) := shape_fault

/-- Everything an instruction can do. -/
theorem exec_shape (i : Instr) (s : State) : Shape s (exec i s) := by
  cases i with
  | nop => exact shape_nothing s
  | ld_BC_nn _ | ld_DE_nn _ | ld_HL_nn _ | ld_SP_nn _ => exact shape_ldPairImm _ _ s
  | ld_atBC_A | ld_atDE_A | ld_atHL_n _ | ldh_atn_A _ | ldh_atC_A | ld_atnn_A _ => exact shape_storeByte _ _ _ _ s (by decide) (by decide)
  | inc_BC | dec_BC | inc_DE | dec_DE | inc_HL | dec_HL | inc_SP | dec_SP => exact shape_stepPair _ _ s
  | inc_B | inc_C | inc_D | inc_E | inc_H | inc_L | inc_A => exact shape_incReg _ s
  | dec_B | dec_C | dec_D | dec_E | dec_H | dec_L | dec_A => exact shape_decReg _ s
  | ld_B_n _ | ld_C_n _ | ld_D_n _ | ld_E_n _ | ld_H_n _ | ld_L_n _ | ld_A_n _ => exact shape_ldRegImm _ _ s
  | rlca | rrca | rla | rra => exact shape_rotA _ s
  | ld_atnn_SP _ => exact shape_storeSp _ s
  | add_HL_BC | add_HL_DE | add_HL_HL | add_HL_SP => exact shape_addHl _ s
  | ld_A_atBC | ld_A_atDE | ldh_A_atn _ | ldh_A_atC | ld_A_atnn _ => exact shape_loadA _ _ _ s (by decide) (by decide)
  | stop | reserved_D3 | reserved_DB | reserved_DD | reserved_E3 | reserved_E4 | reserved_EB | reserved_EC
  | reserved_ED | reserved_F4 | reserved_FC | reserved_FD => exact shape_reservedOpcode _ s
  | jr_e _ | jp_nn _ | jp_HL => exact shape_jumpTo _ _ s (by decide) (by decide)
  | jr_NZ_e _ | jr_Z_e _ | jr_NC_e _ | jr_C_e _ | jp_NZ_nn _ | jp_Z_nn _ | jp_NC_nn _ | jp_C_nn _ => exact shape_jumpCond _ _ _ _ _ s (by decide) (by decide) (by decide) (by decide)
  | ld_atHLi_A | ld_atHLd_A => exact shape_storeAStep _ s
  | daa | cpl | scf | ccf => exact shape_adjustA _ s
  | ld_A_atHLi | ld_A_atHLd => exact shape_loadAStep _ s
  | inc_atHL => exact shape_incMem s
  | dec_atHL => exact shape_decMem s
  | ld_B_B | ld_B_C | ld_B_D | ld_B_E | ld_B_H | ld_B_L | ld_B_A | ld_C_B
  | ld_C_C | ld_C_D | ld_C_E | ld_C_H | ld_C_L | ld_C_A | ld_D_B | ld_D_C
  | ld_D_D | ld_D_E | ld_D_H | ld_D_L | ld_D_A | ld_E_B | ld_E_C | ld_E_D
  | ld_E_E | ld_E_H | ld_E_L | ld_E_A | ld_H_B | ld_H_C | ld_H_D | ld_H_E
  | ld_H_H | ld_H_L | ld_H_A | ld_L_B | ld_L_C | ld_L_D | ld_L_E | ld_L_H
  | ld_L_L | ld_L_A | ld_A_B | ld_A_C | ld_A_D | ld_A_E | ld_A_H | ld_A_L
  | ld_A_A => exact shape_ldRegReg _ _ s
  | ld_B_atHL | ld_C_atHL | ld_D_atHL | ld_E_atHL | ld_H_atHL | ld_L_atHL | ld_A_atHL => exact shape_ldRegMem _ s
  | ld_atHL_B | ld_atHL_C | ld_atHL_D | ld_atHL_E | ld_atHL_H | ld_atHL_L | ld_atHL_A => exact shape_ldMemReg _ s
  | halt => exact shape_enterHalt s
  | add_A_B | add_A_C | add_A_D | add_A_E | add_A_H | add_A_L | add_A_A | adc_A_B
  | adc_A_C | adc_A_D | adc_A_E | adc_A_H | adc_A_L | adc_A_A | sub_B | sub_C
  | sub_D | sub_E | sub_H | sub_L | sub_A | sbc_A_B | sbc_A_C | sbc_A_D
  | sbc_A_E | sbc_A_H | sbc_A_L | sbc_A_A | and_B | and_C | and_D | and_E
  | and_H | and_L | and_A | xor_B | xor_C | xor_D | xor_E | xor_H
  | xor_L | xor_A | or_B | or_C | or_D | or_E | or_H | or_L
  | or_A | cp_B | cp_C | cp_D | cp_E | cp_H | cp_L | cp_A => exact shape_aluReg _ _ s
  | add_A_atHL | adc_A_atHL | sub_atHL | sbc_A_atHL | and_atHL | xor_atHL | or_atHL | cp_atHL => exact shape_aluMem _ s
  | ret_NZ | ret_Z | ret_NC | ret_C => exact shape_retCond _ s
  | pop_BC | pop_DE | pop_HL | pop_AF => exact shape_popPair _ s
  | call_NZ_nn _ | call_Z_nn _ | call_NC_nn _ | call_C_nn _ => exact shape_callCond _ _ s
  | push_BC | push_DE | push_HL | push_AF => exact shape_pushPair _ s
  | add_A_n _ | adc_A_n _ | sub_n _ | sbc_A_n _ | and_n _ | xor_n _ | or_n _ | cp_n _ => exact shape_aluImm _ _ s
  | rst_00 | call_nn _ | rst_08 | rst_10 | rst_18 | rst_20 | rst_28 | rst_30
  | rst_38 => exact shape_callTo _ _ _ s (by decide) (by decide)
  | ret => exact shape_retTo _ s (by decide) (by decide)
  | prefix_CB => exact shape_execExtended _ s
  | reti => exact shape_retInterrupt s
  | add_SP_e _ => exact shape_addSp _ s
  | di | ei => exact shape_setIme _ s
  | ld_HL_SPe _ => exact shape_ldHlSp _ s
  | ld_SP_HL => exact shape_ldSpHl s
  | rlc_B | rlc_C | rlc_D | rlc_E | rlc_H | rlc_L | rlc_A | rrc_B
  | rrc_C | rrc_D | rrc_E | rrc_H | rrc_L | rrc_A | rl_B | rl_C
  | rl_D | rl_E | rl_H | rl_L | rl_A | rr_B | rr_C | rr_D
  | rr_E | rr_H | rr_L | rr_A | sla_B | sla_C | sla_D | sla_E
  | sla_H | sla_L | sla_A | sra_B | sra_C | sra_D | sra_E | sra_H
  | sra_L | sra_A | swap_B | swap_C | swap_D | swap_E | swap_H | swap_L
  | swap_A | srl_B | srl_C | srl_D | srl_E | srl_H | srl_L | srl_A => exact shape_rotReg _ _ s
  | rlc_atHL | rrc_atHL | rl_atHL | rr_atHL | sla_atHL | sra_atHL | swap_atHL | srl_atHL => exact shape_rotMem _ s
  | bit_0_B | bit_0_C | bit_0_D | bit_0_E | bit_0_H | bit_0_L | bit_0_A | bit_1_B
  | bit_1_C | bit_1_D | bit_1_E | bit_1_H | bit_1_L | bit_1_A | bit_2_B | bit_2_C
  | bit_2_D | bit_2_E | bit_2_H | bit_2_L | bit_2_A | bit_3_B | bit_3_C | bit_3_D
  | bit_3_E | bit_3_H | bit_3_L | bit_3_A | bit_4_B | bit_4_C | bit_4_D | bit_4_E
  | bit_4_H | bit_4_L | bit_4_A | bit_5_B | bit_5_C | bit_5_D | bit_5_E | bit_5_H
  | bit_5_L | bit_5_A | bit_6_B | bit_6_C | bit_6_D | bit_6_E | bit_6_H | bit_6_L
  | bit_6_A | bit_7_B | bit_7_C | bit_7_D | bit_7_E | bit_7_H | bit_7_L | bit_7_A => exact shape_bitReg _ _ s
  | bit_0_atHL | bit_1_atHL | bit_2_atHL | bit_3_atHL | bit_4_atHL | bit_5_atHL | bit_6_atHL | bit_7_atHL => exact shape_bitMem _ s
  | res_0_B | res_0_C | res_0_D | res_0_E | res_0_H | res_0_L | res_0_A | res_1_B
  | res_1_C | res_1_D | res_1_E | res_1_H | res_1_L | res_1_A | res_2_B | res_2_C
  | res_2_D | res_2_E | res_2_H | res_2_L | res_2_A | res_3_B | res_3_C | res_3_D
  | res_3_E | res_3_H | res_3_L | res_3_A | res_4_B | res_4_C | res_4_D | res_4_E
  | res_4_H | res_4_L | res_4_A | res_5_B | res_5_C | res_5_D | res_5_E | res_5_H
  | res_5_L | res_5_A | res_6_B | res_6_C | res_6_D | res_6_E | res_6_H | res_6_L
  | res_6_A | res_7_B | res_7_C | res_7_D | res_7_E | res_7_H | res_7_L | res_7_A => exact shape_resReg _ _ s
  | res_0_atHL | res_1_atHL | res_2_atHL | res_3_atHL | res_4_atHL | res_5_atHL | res_6_atHL | res_7_atHL => exact shape_resMem _ s
  | set_0_B | set_0_C | set_0_D | set_0_E | set_0_H | set_0_L | set_0_A | set_1_B
  | set_1_C | set_1_D | set_1_E | set_1_H | set_1_L | set_1_A | set_2_B | set_2_C
  | set_2_D | set_2_E | set_2_H | set_2_L | set_2_A | set_3_B | set_3_C | set_3_D
  | set_3_E | set_3_H | set_3_L | set_3_A | set_4_B | set_4_C | set_4_D | set_4_E
  | set_4_H | set_4_L | set_4_A | set_5_B | set_5_C | set_5_D | set_5_E | set_5_H
  | set_5_L | set_5_A | set_6_B | set_6_C | set_6_D | set_6_E | set_6_H | set_6_L
  | set_6_A | set_7_B | set_7_C | set_7_D | set_7_E | set_7_H | set_7_L | set_7_A => exact shape_setReg _ _ s
  | set_0_atHL | set_1_atHL | set_2_atHL | set_3_atHL | set_4_atHL | set_5_atHL | set_6_atHL | set_7_atHL => exact shape_setMem _ s

end Sys2Proof.Laws
end

