-- ==== Sys2Proof/Laws/MacroStep.lean ====
section
/-! SUPPORT. What each part of a macro-step around the CPU step can do: the phase machine, the timer, the interrupt
evaluation, the host drain. -/

namespace Sys2Proof.Laws

open Sys2Proof.Machine Sys2Proof.Safety

/-- The picture processing unit's advance changes its own state, IF and the frame handed over, nothing else. -/
theorem ppuAdvance_kept (s : State) (e : Nat) :
    (ppuAdvance s e).cpu = s.cpu ∧ (ppuAdvance s e).timer = s.timer ∧ (ppuAdvance s e).joypad = s.joypad ∧
    (ppuAdvance s e).cart = s.cart ∧ (ppuAdvance s e).stopped = s.stopped ∧
    (ppuAdvance s e).host.keyStream = s.host.keyStream ∧ (ppuAdvance s e).ppu = (s.ppu.advance e).1 ∧
    (ppuAdvance s e).mmu = { s.mmu with irq := (ppuAdvance s e).mmu.irq } := by
  unfold ppuAdvance
  simp only []
  split <;> split <;> simp [State.request]

/-- The timer's advance changes its own state and IF, nothing else. -/
theorem timerAdvance_kept (s : State) (e : Nat) :
    (timerAdvance s e).cpu = s.cpu ∧ (timerAdvance s e).ppu = s.ppu ∧ (timerAdvance s e).joypad = s.joypad ∧
    (timerAdvance s e).cart = s.cart ∧ (timerAdvance s e).stopped = s.stopped ∧
    (timerAdvance s e).host = s.host ∧ (timerAdvance s e).timer = s.timer.advance e ∧
    (timerAdvance s e).mmu = { s.mmu with irq := (timerAdvance s e).mmu.irq } := by
  unfold timerAdvance
  simp only []
  split <;> simp [State.request]

/-- The host drain changes the key groups, the list of transitions and IF, nothing else. -/
theorem hostDrain_kept (s : State) :
    (hostDrain s).cpu = s.cpu ∧ (hostDrain s).ppu = s.ppu ∧ (hostDrain s).timer = s.timer ∧
    (hostDrain s).cart = s.cart ∧ (hostDrain s).stopped = s.stopped ∧
    (hostDrain s).host.presented = s.host.presented ∧
    (hostDrain s).mmu = { s.mmu with irq := (hostDrain s).mmu.irq } := by
  unfold hostDrain
  split
  · simp
  · simp only []
    split <;> simp [State.request]

/-- Taking an interrupt is the two-byte push of PC from the state with the request cleared, then the new CPU. -/
theorem takeInterrupt_eq (s : State) (i : IrqSource) :
    takeInterrupt s i =
      (memWrite16 { s with mmu := { s.mmu with irq := s.mmu.irq &&& ~~~i.mask } } (s.cpu.sp - 2) s.cpu.pc).map
        fun t => t.withCpu { s.cpu with ime := false, sp := s.cpu.sp - 2, pc := i.vector } := by
  have h := memWrite16_withCpu { s with mmu := { s.mmu with irq := s.mmu.irq &&& ~~~i.mask } }
    { s.cpu with ime := false, sp := s.cpu.sp - 2 } (s.cpu.sp - 2) s.cpu.pc
  simp only [takeInterrupt, push16, State.withCpu] at h ⊢
  rw [h]
  cases memWrite16 { s with mmu := { s.mmu with irq := s.mmu.irq &&& ~~~i.mask } } (s.cpu.sp - 2) s.cpu.pc <;> rfl

/-- Everything an interrupt evaluation that goes on can do: change the CPU alone, its cost apart; or clear one
request, push the old PC and enter the vector. -/
theorem interruptEvaluation_ok {s u : State} (h : interruptEvaluation s = .ok u) :
    (∃ k : Cpu, k.mcycles = s.cpu.mcycles ∧ u = s.withCpu k) ∨
    ∃ (i : IrqSource) (w : State),
      lowestSource s.pendingMask = some i ∧ s.cpu.ime = true ∧
      memWrite16 { s with mmu := { s.mmu with irq := s.mmu.irq &&& ~~~i.mask } } (s.cpu.sp - 2) s.cpu.pc = .ok w ∧
      u = w.withCpu { s.cpu with halted := false, ime := false, sp := s.cpu.sp - 2, pc := i.vector } := by
  unfold interruptEvaluation at h
  split at h
  · cases h
    exact .inl ⟨s.cpu, rfl, rfl⟩
  · rename_i i hi
    simp only [] at h
    split at h
    · rename_i hime
      rw [takeInterrupt_eq] at h
      have hw := memWrite16_withCpu { s with mmu := { s.mmu with irq := s.mmu.irq &&& ~~~i.mask } }
        { s.cpu with halted := false } (s.cpu.sp - 2) s.cpu.pc
      simp only [State.withCpu] at hw h
      rw [hw] at h
      cases hm : memWrite16 { s with mmu := { s.mmu with irq := s.mmu.irq &&& ~~~i.mask } } (s.cpu.sp - 2)
        s.cpu.pc with
      | error f => rw [hm] at h; cases h
      | ok w =>
        rw [hm] at h
        cases h
        exact .inr ⟨i, w, hi, hime, hm, rfl⟩
    · cases h
      exact .inl ⟨{ s.cpu with halted := false }, rfl, rfl⟩

/-- A macro-step that goes on: the CPU part answered a state, the evaluation another, and the drain ends it. -/
theorem step_next {s t : State} (h : step s = .next t) :
    s.stopped = none ∧ ∃ c u, cpuStep s = .next c ∧ interruptEvaluation (advancePeripherals c) = .ok u ∧
      t = hostDrain u := by
  unfold step at h
  split at h
  · cases h
  · rename_i hs
    refine ⟨hs, ?_⟩
    cases hc : cpuStep s with
    | fault f => rw [hc] at h; cases h
    | refused r => rw [hc] at h; cases h
    | next c =>
      rw [hc] at h
      simp only [afterCpu, endMacroStep] at h
      cases hu : interruptEvaluation (advancePeripherals c) with
      | error f => rw [hu] at h; cases h
      | ok u =>
        rw [hu] at h
        cases h
        exact ⟨c, u, rfl, hu, rfl⟩

/-- An advance that does not reach the budget of the phase only moves the dot. -/
theorem advance_within {p : Ppu} {e : Nat} (h : p.dot + e < phaseBudget p.phase) :
    p.advance e = ({ p with dot := p.dot + e }, { lcdStatus := false, enteredVblank := false }) := by
  unfold Ppu.advance
  cases hn : p.dot + e with
  | zero => rfl
  | succ n =>
    simp only [Ppu.loop]
    rw [if_neg (by omega)]

/-- The budget of a phase is at least 80 clock edges. -/
theorem budget_ge (ph : Phase) : 80 ≤ phaseBudget ph := by
  cases ph <;> decide

/-- What a transition leaves of the dot: the remainder past the budget (R404). -/
theorem transition_dot (p : Ppu) : p.transition.1.dot = p.dot - phaseBudget p.phase := by
  unfold Ppu.transition
  cases h : p.phase
  · rfl
  · rfl
  · simp only [Ppu.leaveHblank]; split <;> rfl
  · simp only [Ppu.endVblankLine]; split <;> rfl

/-- An advance of at most 24 clock edges, the largest cost of a macro-step, that reaches the budget of the phase
makes exactly one transition. -/
theorem advance_across {p : Ppu} {e : Nat} (hd : p.dot < phaseBudget p.phase) (he : e ≤ 24)
    (h : phaseBudget p.phase ≤ p.dot + e) :
    p.advance e = (Ppu.transition { p with dot := p.dot + e }) := by
  have hb := budget_ge p.phase
  unfold Ppu.advance
  cases hn : p.dot + e with
  | zero => omega
  | succ n =>
    simp only [Ppu.loop]
    rw [if_pos (by omega)]
    cases n with
    | zero => omega
    | succ m =>
      have hd2 := transition_dot { p with dot := m + 1 + 1 }
      have hb2 := budget_ge (Ppu.transition { p with dot := m + 1 + 1 }).1.phase
      simp only at hd2
      simp only [Ppu.loop]
      rw [if_neg (by omega)]
      simp [PpuEvents.or]

/-- The counter after `k` increments: the sum modulo 256, the overflow latched if it was or if 256 was reached. -/
theorem countUp_eq (t : Timer) (k : Nat) :
    t.countUp k =
      { t with
        tima := BitVec.ofNat 8 (t.tima.toNat + k)
        overflowPending := t.overflowPending || decide (t.tima.toNat + k ≥ 256) } := by
  induction k generalizing t with
  | zero =>
    have h : ¬ t.tima.toNat ≥ 256 := by have := t.tima.isLt; omega
    simp only [Timer.countUp, Nat.add_zero, h, decide_false, Bool.or_false, BitVec.ofNat_toNat, BitVec.setWidth_eq]
  | succ k ih =>
    rw [Timer.countUp, ih]
    have h := t.tima.isLt
    by_cases hz : t.tima.toNat = 255
    · have h0 : t.tima = 255 := BitVec.eq_of_toNat_eq (by rw [hz]; rfl)
      have e : BitVec.ofNat 8 k = BitVec.ofNat 8 (255 + (k + 1)) := by
        apply BitVec.eq_of_toNat_eq; simp; omega
      have g : (256 ≤ 255 + (k + 1)) = True := by simp; omega
      simp [h0, g, ← e]
    · have h1 : (t.tima + 1).toNat = t.tima.toNat + 1 := by
        simp; omega
      have h2 : t.tima + 1 ≠ 0 := by
        intro hc; rw [hc] at h1; simp at h1
      simp only [h1, h2]
      simp [Nat.add_assoc, Nat.add_comm 1 k]

end Sys2Proof.Laws
end

