-- ==== Sys2Proof/Laws/PerInstr.lean ====
section
/-! SUPPORT. A statement about each instruction as syntax, proved constructor by constructor. -/

namespace Sys2Proof.Laws.EncodedLength

/-- A well-formed instruction is encoded in as many bytes as the length table gives its first byte (R141,
R142). -/
def Statement (i : Instr) : Prop :=
  i.wellFormed = true → (encode i).length = opLength ((encode i).getD 0 0)

/-- The statement from the first byte and the others. -/
theorem of_bytes {i : Instr} (op : Byte) (rest : List Byte) (h : encode i = op :: rest)
    (hl : rest.length + 1 = opLength op) : Statement i := by
  intro _
  rw [h]
  exact hl

theorem nop : Statement (.nop) := of_bytes 0x00 [] rfl rfl
theorem ld_BC_nn (nn : Word) : Statement (.ld_BC_nn nn) := of_bytes 0x01 (wordBytes nn) rfl rfl
theorem ld_atBC_A : Statement (.ld_atBC_A) := of_bytes 0x02 [] rfl rfl
theorem inc_BC : Statement (.inc_BC) := of_bytes 0x03 [] rfl rfl
theorem inc_B : Statement (.inc_B) := of_bytes 0x04 [] rfl rfl
theorem dec_B : Statement (.dec_B) := of_bytes 0x05 [] rfl rfl
theorem ld_B_n (n : Byte) : Statement (.ld_B_n n) := of_bytes 0x06 [n] rfl rfl
theorem rlca : Statement (.rlca) := of_bytes 0x07 [] rfl rfl
theorem ld_atnn_SP (nn : Word) : Statement (.ld_atnn_SP nn) := of_bytes 0x08 (wordBytes nn) rfl rfl
theorem add_HL_BC : Statement (.add_HL_BC) := of_bytes 0x09 [] rfl rfl
theorem ld_A_atBC : Statement (.ld_A_atBC) := of_bytes 0x0A [] rfl rfl
theorem dec_BC : Statement (.dec_BC) := of_bytes 0x0B [] rfl rfl
theorem inc_C : Statement (.inc_C) := of_bytes 0x0C [] rfl rfl
theorem dec_C : Statement (.dec_C) := of_bytes 0x0D [] rfl rfl
theorem ld_C_n (n : Byte) : Statement (.ld_C_n n) := of_bytes 0x0E [n] rfl rfl
theorem rrca : Statement (.rrca) := of_bytes 0x0F [] rfl rfl
theorem stop : Statement (.stop) := of_bytes 0x10 [0x00] rfl rfl
theorem ld_DE_nn (nn : Word) : Statement (.ld_DE_nn nn) := of_bytes 0x11 (wordBytes nn) rfl rfl
theorem ld_atDE_A : Statement (.ld_atDE_A) := of_bytes 0x12 [] rfl rfl
theorem inc_DE : Statement (.inc_DE) := of_bytes 0x13 [] rfl rfl
theorem inc_D : Statement (.inc_D) := of_bytes 0x14 [] rfl rfl
theorem dec_D : Statement (.dec_D) := of_bytes 0x15 [] rfl rfl
theorem ld_D_n (n : Byte) : Statement (.ld_D_n n) := of_bytes 0x16 [n] rfl rfl
theorem rla : Statement (.rla) := of_bytes 0x17 [] rfl rfl
theorem jr_e (n : Byte) : Statement (.jr_e n) := of_bytes 0x18 [n] rfl rfl
theorem add_HL_DE : Statement (.add_HL_DE) := of_bytes 0x19 [] rfl rfl
theorem ld_A_atDE : Statement (.ld_A_atDE) := of_bytes 0x1A [] rfl rfl
theorem dec_DE : Statement (.dec_DE) := of_bytes 0x1B [] rfl rfl
theorem inc_E : Statement (.inc_E) := of_bytes 0x1C [] rfl rfl
theorem dec_E : Statement (.dec_E) := of_bytes 0x1D [] rfl rfl
theorem ld_E_n (n : Byte) : Statement (.ld_E_n n) := of_bytes 0x1E [n] rfl rfl
theorem rra : Statement (.rra) := of_bytes 0x1F [] rfl rfl
theorem jr_NZ_e (n : Byte) : Statement (.jr_NZ_e n) := of_bytes 0x20 [n] rfl rfl
theorem ld_HL_nn (nn : Word) : Statement (.ld_HL_nn nn) := of_bytes 0x21 (wordBytes nn) rfl rfl
theorem ld_atHLi_A : Statement (.ld_atHLi_A) := of_bytes 0x22 [] rfl rfl
theorem inc_HL : Statement (.inc_HL) := of_bytes 0x23 [] rfl rfl
theorem inc_H : Statement (.inc_H) := of_bytes 0x24 [] rfl rfl
theorem dec_H : Statement (.dec_H) := of_bytes 0x25 [] rfl rfl
theorem ld_H_n (n : Byte) : Statement (.ld_H_n n) := of_bytes 0x26 [n] rfl rfl
theorem daa : Statement (.daa) := of_bytes 0x27 [] rfl rfl
theorem jr_Z_e (n : Byte) : Statement (.jr_Z_e n) := of_bytes 0x28 [n] rfl rfl
theorem add_HL_HL : Statement (.add_HL_HL) := of_bytes 0x29 [] rfl rfl
theorem ld_A_atHLi : Statement (.ld_A_atHLi) := of_bytes 0x2A [] rfl rfl
theorem dec_HL : Statement (.dec_HL) := of_bytes 0x2B [] rfl rfl
theorem inc_L : Statement (.inc_L) := of_bytes 0x2C [] rfl rfl
theorem dec_L : Statement (.dec_L) := of_bytes 0x2D [] rfl rfl
theorem ld_L_n (n : Byte) : Statement (.ld_L_n n) := of_bytes 0x2E [n] rfl rfl
theorem cpl : Statement (.cpl) := of_bytes 0x2F [] rfl rfl
theorem jr_NC_e (n : Byte) : Statement (.jr_NC_e n) := of_bytes 0x30 [n] rfl rfl
theorem ld_SP_nn (nn : Word) : Statement (.ld_SP_nn nn) := of_bytes 0x31 (wordBytes nn) rfl rfl
theorem ld_atHLd_A : Statement (.ld_atHLd_A) := of_bytes 0x32 [] rfl rfl
theorem inc_SP : Statement (.inc_SP) := of_bytes 0x33 [] rfl rfl
theorem inc_atHL : Statement (.inc_atHL) := of_bytes 0x34 [] rfl rfl
theorem dec_atHL : Statement (.dec_atHL) := of_bytes 0x35 [] rfl rfl
theorem ld_atHL_n (n : Byte) : Statement (.ld_atHL_n n) := of_bytes 0x36 [n] rfl rfl
theorem scf : Statement (.scf) := of_bytes 0x37 [] rfl rfl
theorem jr_C_e (n : Byte) : Statement (.jr_C_e n) := of_bytes 0x38 [n] rfl rfl
theorem add_HL_SP : Statement (.add_HL_SP) := of_bytes 0x39 [] rfl rfl
theorem ld_A_atHLd : Statement (.ld_A_atHLd) := of_bytes 0x3A [] rfl rfl
theorem dec_SP : Statement (.dec_SP) := of_bytes 0x3B [] rfl rfl
theorem inc_A : Statement (.inc_A) := of_bytes 0x3C [] rfl rfl
theorem dec_A : Statement (.dec_A) := of_bytes 0x3D [] rfl rfl
theorem ld_A_n (n : Byte) : Statement (.ld_A_n n) := of_bytes 0x3E [n] rfl rfl
theorem ccf : Statement (.ccf) := of_bytes 0x3F [] rfl rfl
theorem ld_B_B : Statement (.ld_B_B) := of_bytes 0x40 [] rfl rfl
theorem ld_B_C : Statement (.ld_B_C) := of_bytes 0x41 [] rfl rfl
theorem ld_B_D : Statement (.ld_B_D) := of_bytes 0x42 [] rfl rfl
theorem ld_B_E : Statement (.ld_B_E) := of_bytes 0x43 [] rfl rfl
theorem ld_B_H : Statement (.ld_B_H) := of_bytes 0x44 [] rfl rfl
theorem ld_B_L : Statement (.ld_B_L) := of_bytes 0x45 [] rfl rfl
theorem ld_B_atHL : Statement (.ld_B_atHL) := of_bytes 0x46 [] rfl rfl
theorem ld_B_A : Statement (.ld_B_A) := of_bytes 0x47 [] rfl rfl
theorem ld_C_B : Statement (.ld_C_B) := of_bytes 0x48 [] rfl rfl
theorem ld_C_C : Statement (.ld_C_C) := of_bytes 0x49 [] rfl rfl
theorem ld_C_D : Statement (.ld_C_D) := of_bytes 0x4A [] rfl rfl
theorem ld_C_E : Statement (.ld_C_E) := of_bytes 0x4B [] rfl rfl
theorem ld_C_H : Statement (.ld_C_H) := of_bytes 0x4C [] rfl rfl
theorem ld_C_L : Statement (.ld_C_L) := of_bytes 0x4D [] rfl rfl
theorem ld_C_atHL : Statement (.ld_C_atHL) := of_bytes 0x4E [] rfl rfl
theorem ld_C_A : Statement (.ld_C_A) := of_bytes 0x4F [] rfl rfl
theorem ld_D_B : Statement (.ld_D_B) := of_bytes 0x50 [] rfl rfl
theorem ld_D_C : Statement (.ld_D_C) := of_bytes 0x51 [] rfl rfl
theorem ld_D_D : Statement (.ld_D_D) := of_bytes 0x52 [] rfl rfl
theorem ld_D_E : Statement (.ld_D_E) := of_bytes 0x53 [] rfl rfl
theorem ld_D_H : Statement (.ld_D_H) := of_bytes 0x54 [] rfl rfl
theorem ld_D_L : Statement (.ld_D_L) := of_bytes 0x55 [] rfl rfl
theorem ld_D_atHL : Statement (.ld_D_atHL) := of_bytes 0x56 [] rfl rfl
theorem ld_D_A : Statement (.ld_D_A) := of_bytes 0x57 [] rfl rfl
theorem ld_E_B : Statement (.ld_E_B) := of_bytes 0x58 [] rfl rfl
theorem ld_E_C : Statement (.ld_E_C) := of_bytes 0x59 [] rfl rfl
theorem ld_E_D : Statement (.ld_E_D) := of_bytes 0x5A [] rfl rfl
theorem ld_E_E : Statement (.ld_E_E) := of_bytes 0x5B [] rfl rfl
theorem ld_E_H : Statement (.ld_E_H) := of_bytes 0x5C [] rfl rfl
theorem ld_E_L : Statement (.ld_E_L) := of_bytes 0x5D [] rfl rfl
theorem ld_E_atHL : Statement (.ld_E_atHL) := of_bytes 0x5E [] rfl rfl
theorem ld_E_A : Statement (.ld_E_A) := of_bytes 0x5F [] rfl rfl
theorem ld_H_B : Statement (.ld_H_B) := of_bytes 0x60 [] rfl rfl
theorem ld_H_C : Statement (.ld_H_C) := of_bytes 0x61 [] rfl rfl
theorem ld_H_D : Statement (.ld_H_D) := of_bytes 0x62 [] rfl rfl
theorem ld_H_E : Statement (.ld_H_E) := of_bytes 0x63 [] rfl rfl
theorem ld_H_H : Statement (.ld_H_H) := of_bytes 0x64 [] rfl rfl
theorem ld_H_L : Statement (.ld_H_L) := of_bytes 0x65 [] rfl rfl
theorem ld_H_atHL : Statement (.ld_H_atHL) := of_bytes 0x66 [] rfl rfl
theorem ld_H_A : Statement (.ld_H_A) := of_bytes 0x67 [] rfl rfl
theorem ld_L_B : Statement (.ld_L_B) := of_bytes 0x68 [] rfl rfl
theorem ld_L_C : Statement (.ld_L_C) := of_bytes 0x69 [] rfl rfl
theorem ld_L_D : Statement (.ld_L_D) := of_bytes 0x6A [] rfl rfl
theorem ld_L_E : Statement (.ld_L_E) := of_bytes 0x6B [] rfl rfl
theorem ld_L_H : Statement (.ld_L_H) := of_bytes 0x6C [] rfl rfl
theorem ld_L_L : Statement (.ld_L_L) := of_bytes 0x6D [] rfl rfl
theorem ld_L_atHL : Statement (.ld_L_atHL) := of_bytes 0x6E [] rfl rfl
theorem ld_L_A : Statement (.ld_L_A) := of_bytes 0x6F [] rfl rfl
theorem ld_atHL_B : Statement (.ld_atHL_B) := of_bytes 0x70 [] rfl rfl
theorem ld_atHL_C : Statement (.ld_atHL_C) := of_bytes 0x71 [] rfl rfl
theorem ld_atHL_D : Statement (.ld_atHL_D) := of_bytes 0x72 [] rfl rfl
theorem ld_atHL_E : Statement (.ld_atHL_E) := of_bytes 0x73 [] rfl rfl
theorem ld_atHL_H : Statement (.ld_atHL_H) := of_bytes 0x74 [] rfl rfl
theorem ld_atHL_L : Statement (.ld_atHL_L) := of_bytes 0x75 [] rfl rfl
theorem halt : Statement (.halt) := of_bytes 0x76 [] rfl rfl
theorem ld_atHL_A : Statement (.ld_atHL_A) := of_bytes 0x77 [] rfl rfl
theorem ld_A_B : Statement (.ld_A_B) := of_bytes 0x78 [] rfl rfl
theorem ld_A_C : Statement (.ld_A_C) := of_bytes 0x79 [] rfl rfl
theorem ld_A_D : Statement (.ld_A_D) := of_bytes 0x7A [] rfl rfl
theorem ld_A_E : Statement (.ld_A_E) := of_bytes 0x7B [] rfl rfl
theorem ld_A_H : Statement (.ld_A_H) := of_bytes 0x7C [] rfl rfl
theorem ld_A_L : Statement (.ld_A_L) := of_bytes 0x7D [] rfl rfl
theorem ld_A_atHL : Statement (.ld_A_atHL) := of_bytes 0x7E [] rfl rfl
theorem ld_A_A : Statement (.ld_A_A) := of_bytes 0x7F [] rfl rfl
theorem add_A_B : Statement (.add_A_B) := of_bytes 0x80 [] rfl rfl
theorem add_A_C : Statement (.add_A_C) := of_bytes 0x81 [] rfl rfl
theorem add_A_D : Statement (.add_A_D) := of_bytes 0x82 [] rfl rfl
theorem add_A_E : Statement (.add_A_E) := of_bytes 0x83 [] rfl rfl
theorem add_A_H : Statement (.add_A_H) := of_bytes 0x84 [] rfl rfl
theorem add_A_L : Statement (.add_A_L) := of_bytes 0x85 [] rfl rfl
theorem add_A_atHL : Statement (.add_A_atHL) := of_bytes 0x86 [] rfl rfl
theorem add_A_A : Statement (.add_A_A) := of_bytes 0x87 [] rfl rfl
theorem adc_A_B : Statement (.adc_A_B) := of_bytes 0x88 [] rfl rfl
theorem adc_A_C : Statement (.adc_A_C) := of_bytes 0x89 [] rfl rfl
theorem adc_A_D : Statement (.adc_A_D) := of_bytes 0x8A [] rfl rfl
theorem adc_A_E : Statement (.adc_A_E) := of_bytes 0x8B [] rfl rfl
theorem adc_A_H : Statement (.adc_A_H) := of_bytes 0x8C [] rfl rfl
theorem adc_A_L : Statement (.adc_A_L) := of_bytes 0x8D [] rfl rfl
theorem adc_A_atHL : Statement (.adc_A_atHL) := of_bytes 0x8E [] rfl rfl
theorem adc_A_A : Statement (.adc_A_A) := of_bytes 0x8F [] rfl rfl
theorem sub_B : Statement (.sub_B) := of_bytes 0x90 [] rfl rfl
theorem sub_C : Statement (.sub_C) := of_bytes 0x91 [] rfl rfl
theorem sub_D : Statement (.sub_D) := of_bytes 0x92 [] rfl rfl
theorem sub_E : Statement (.sub_E) := of_bytes 0x93 [] rfl rfl
theorem sub_H : Statement (.sub_H) := of_bytes 0x94 [] rfl rfl
theorem sub_L : Statement (.sub_L) := of_bytes 0x95 [] rfl rfl
theorem sub_atHL : Statement (.sub_atHL) := of_bytes 0x96 [] rfl rfl
theorem sub_A : Statement (.sub_A) := of_bytes 0x97 [] rfl rfl
theorem sbc_A_B : Statement (.sbc_A_B) := of_bytes 0x98 [] rfl rfl
theorem sbc_A_C : Statement (.sbc_A_C) := of_bytes 0x99 [] rfl rfl
theorem sbc_A_D : Statement (.sbc_A_D) := of_bytes 0x9A [] rfl rfl
theorem sbc_A_E : Statement (.sbc_A_E) := of_bytes 0x9B [] rfl rfl
theorem sbc_A_H : Statement (.sbc_A_H) := of_bytes 0x9C [] rfl rfl
theorem sbc_A_L : Statement (.sbc_A_L) := of_bytes 0x9D [] rfl rfl
theorem sbc_A_atHL : Statement (.sbc_A_atHL) := of_bytes 0x9E [] rfl rfl
theorem sbc_A_A : Statement (.sbc_A_A) := of_bytes 0x9F [] rfl rfl
theorem and_B : Statement (.and_B) := of_bytes 0xA0 [] rfl rfl
theorem and_C : Statement (.and_C) := of_bytes 0xA1 [] rfl rfl
theorem and_D : Statement (.and_D) := of_bytes 0xA2 [] rfl rfl
theorem and_E : Statement (.and_E) := of_bytes 0xA3 [] rfl rfl
theorem and_H : Statement (.and_H) := of_bytes 0xA4 [] rfl rfl
theorem and_L : Statement (.and_L) := of_bytes 0xA5 [] rfl rfl
theorem and_atHL : Statement (.and_atHL) := of_bytes 0xA6 [] rfl rfl
theorem and_A : Statement (.and_A) := of_bytes 0xA7 [] rfl rfl
theorem xor_B : Statement (.xor_B) := of_bytes 0xA8 [] rfl rfl
theorem xor_C : Statement (.xor_C) := of_bytes 0xA9 [] rfl rfl
theorem xor_D : Statement (.xor_D) := of_bytes 0xAA [] rfl rfl
theorem xor_E : Statement (.xor_E) := of_bytes 0xAB [] rfl rfl
theorem xor_H : Statement (.xor_H) := of_bytes 0xAC [] rfl rfl
theorem xor_L : Statement (.xor_L) := of_bytes 0xAD [] rfl rfl
theorem xor_atHL : Statement (.xor_atHL) := of_bytes 0xAE [] rfl rfl
theorem xor_A : Statement (.xor_A) := of_bytes 0xAF [] rfl rfl
theorem or_B : Statement (.or_B) := of_bytes 0xB0 [] rfl rfl
theorem or_C : Statement (.or_C) := of_bytes 0xB1 [] rfl rfl
theorem or_D : Statement (.or_D) := of_bytes 0xB2 [] rfl rfl
theorem or_E : Statement (.or_E) := of_bytes 0xB3 [] rfl rfl
theorem or_H : Statement (.or_H) := of_bytes 0xB4 [] rfl rfl
theorem or_L : Statement (.or_L) := of_bytes 0xB5 [] rfl rfl
theorem or_atHL : Statement (.or_atHL) := of_bytes 0xB6 [] rfl rfl
theorem or_A : Statement (.or_A) := of_bytes 0xB7 [] rfl rfl
theorem cp_B : Statement (.cp_B) := of_bytes 0xB8 [] rfl rfl
theorem cp_C : Statement (.cp_C) := of_bytes 0xB9 [] rfl rfl
theorem cp_D : Statement (.cp_D) := of_bytes 0xBA [] rfl rfl
theorem cp_E : Statement (.cp_E) := of_bytes 0xBB [] rfl rfl
theorem cp_H : Statement (.cp_H) := of_bytes 0xBC [] rfl rfl
theorem cp_L : Statement (.cp_L) := of_bytes 0xBD [] rfl rfl
theorem cp_atHL : Statement (.cp_atHL) := of_bytes 0xBE [] rfl rfl
theorem cp_A : Statement (.cp_A) := of_bytes 0xBF [] rfl rfl
theorem ret_NZ : Statement (.ret_NZ) := of_bytes 0xC0 [] rfl rfl
theorem pop_BC : Statement (.pop_BC) := of_bytes 0xC1 [] rfl rfl
theorem jp_NZ_nn (nn : Word) : Statement (.jp_NZ_nn nn) := of_bytes 0xC2 (wordBytes nn) rfl rfl
theorem jp_nn (nn : Word) : Statement (.jp_nn nn) := of_bytes 0xC3 (wordBytes nn) rfl rfl
theorem call_NZ_nn (nn : Word) : Statement (.call_NZ_nn nn) := of_bytes 0xC4 (wordBytes nn) rfl rfl
theorem push_BC : Statement (.push_BC) := of_bytes 0xC5 [] rfl rfl
theorem add_A_n (n : Byte) : Statement (.add_A_n n) := of_bytes 0xC6 [n] rfl rfl
theorem rst_00 : Statement (.rst_00) := of_bytes 0xC7 [] rfl rfl
theorem ret_Z : Statement (.ret_Z) := of_bytes 0xC8 [] rfl rfl
theorem ret : Statement (.ret) := of_bytes 0xC9 [] rfl rfl
theorem jp_Z_nn (nn : Word) : Statement (.jp_Z_nn nn) := of_bytes 0xCA (wordBytes nn) rfl rfl
theorem prefix_CB : Statement (.prefix_CB) := fun h => absurd h (by decide)
theorem call_Z_nn (nn : Word) : Statement (.call_Z_nn nn) := of_bytes 0xCC (wordBytes nn) rfl rfl
theorem call_nn (nn : Word) : Statement (.call_nn nn) := of_bytes 0xCD (wordBytes nn) rfl rfl
theorem adc_A_n (n : Byte) : Statement (.adc_A_n n) := of_bytes 0xCE [n] rfl rfl
theorem rst_08 : Statement (.rst_08) := of_bytes 0xCF [] rfl rfl
theorem ret_NC : Statement (.ret_NC) := of_bytes 0xD0 [] rfl rfl
theorem pop_DE : Statement (.pop_DE) := of_bytes 0xD1 [] rfl rfl
theorem jp_NC_nn (nn : Word) : Statement (.jp_NC_nn nn) := of_bytes 0xD2 (wordBytes nn) rfl rfl
theorem reserved_D3 : Statement (.reserved_D3) := of_bytes 0xD3 [] rfl rfl
theorem call_NC_nn (nn : Word) : Statement (.call_NC_nn nn) := of_bytes 0xD4 (wordBytes nn) rfl rfl
theorem push_DE : Statement (.push_DE) := of_bytes 0xD5 [] rfl rfl
theorem sub_n (n : Byte) : Statement (.sub_n n) := of_bytes 0xD6 [n] rfl rfl
theorem rst_10 : Statement (.rst_10) := of_bytes 0xD7 [] rfl rfl
theorem ret_C : Statement (.ret_C) := of_bytes 0xD8 [] rfl rfl
theorem reti : Statement (.reti) := of_bytes 0xD9 [] rfl rfl
theorem jp_C_nn (nn : Word) : Statement (.jp_C_nn nn) := of_bytes 0xDA (wordBytes nn) rfl rfl
theorem reserved_DB : Statement (.reserved_DB) := of_bytes 0xDB [] rfl rfl
theorem call_C_nn (nn : Word) : Statement (.call_C_nn nn) := of_bytes 0xDC (wordBytes nn) rfl rfl
theorem reserved_DD : Statement (.reserved_DD) := of_bytes 0xDD [] rfl rfl
theorem sbc_A_n (n : Byte) : Statement (.sbc_A_n n) := of_bytes 0xDE [n] rfl rfl
theorem rst_18 : Statement (.rst_18) := of_bytes 0xDF [] rfl rfl
theorem ldh_atn_A (n : Byte) : Statement (.ldh_atn_A n) := of_bytes 0xE0 [n] rfl rfl
theorem pop_HL : Statement (.pop_HL) := of_bytes 0xE1 [] rfl rfl
theorem ldh_atC_A : Statement (.ldh_atC_A) := of_bytes 0xE2 [] rfl rfl
theorem reserved_E3 : Statement (.reserved_E3) := of_bytes 0xE3 [] rfl rfl
theorem reserved_E4 : Statement (.reserved_E4) := of_bytes 0xE4 [] rfl rfl
theorem push_HL : Statement (.push_HL) := of_bytes 0xE5 [] rfl rfl
theorem and_n (n : Byte) : Statement (.and_n n) := of_bytes 0xE6 [n] rfl rfl
theorem rst_20 : Statement (.rst_20) := of_bytes 0xE7 [] rfl rfl
theorem add_SP_e (n : Byte) : Statement (.add_SP_e n) := of_bytes 0xE8 [n] rfl rfl
theorem jp_HL : Statement (.jp_HL) := of_bytes 0xE9 [] rfl rfl
theorem ld_atnn_A (nn : Word) : Statement (.ld_atnn_A nn) := of_bytes 0xEA (wordBytes nn) rfl rfl
theorem reserved_EB : Statement (.reserved_EB) := of_bytes 0xEB [] rfl rfl
theorem reserved_EC : Statement (.reserved_EC) := of_bytes 0xEC [] rfl rfl
theorem reserved_ED : Statement (.reserved_ED) := of_bytes 0xED [] rfl rfl
theorem xor_n (n : Byte) : Statement (.xor_n n) := of_bytes 0xEE [n] rfl rfl
theorem rst_28 : Statement (.rst_28) := of_bytes 0xEF [] rfl rfl
theorem ldh_A_atn (n : Byte) : Statement (.ldh_A_atn n) := of_bytes 0xF0 [n] rfl rfl
theorem pop_AF : Statement (.pop_AF) := of_bytes 0xF1 [] rfl rfl
theorem ldh_A_atC : Statement (.ldh_A_atC) := of_bytes 0xF2 [] rfl rfl
theorem di : Statement (.di) := of_bytes 0xF3 [] rfl rfl
theorem reserved_F4 : Statement (.reserved_F4) := of_bytes 0xF4 [] rfl rfl
theorem push_AF : Statement (.push_AF) := of_bytes 0xF5 [] rfl rfl
theorem or_n (n : Byte) : Statement (.or_n n) := of_bytes 0xF6 [n] rfl rfl
theorem rst_30 : Statement (.rst_30) := of_bytes 0xF7 [] rfl rfl
theorem ld_HL_SPe (n : Byte) : Statement (.ld_HL_SPe n) := of_bytes 0xF8 [n] rfl rfl
theorem ld_SP_HL : Statement (.ld_SP_HL) := of_bytes 0xF9 [] rfl rfl
theorem ld_A_atnn (nn : Word) : Statement (.ld_A_atnn nn) := of_bytes 0xFA (wordBytes nn) rfl rfl
theorem ei : Statement (.ei) := of_bytes 0xFB [] rfl rfl
theorem reserved_FC : Statement (.reserved_FC) := of_bytes 0xFC [] rfl rfl
theorem reserved_FD : Statement (.reserved_FD) := of_bytes 0xFD [] rfl rfl
theorem cp_n (n : Byte) : Statement (.cp_n n) := of_bytes 0xFE [n] rfl rfl
theorem rst_38 : Statement (.rst_38) := of_bytes 0xFF [] rfl rfl
theorem rlc_B : Statement (.rlc_B) := of_bytes 0xCB [0x00] rfl rfl
theorem rlc_C : Statement (.rlc_C) := of_bytes 0xCB [0x01] rfl rfl
theorem rlc_D : Statement (.rlc_D) := of_bytes 0xCB [0x02] rfl rfl
theorem rlc_E : Statement (.rlc_E) := of_bytes 0xCB [0x03] rfl rfl
theorem rlc_H : Statement (.rlc_H) := of_bytes 0xCB [0x04] rfl rfl
theorem rlc_L : Statement (.rlc_L) := of_bytes 0xCB [0x05] rfl rfl
theorem rlc_atHL : Statement (.rlc_atHL) := of_bytes 0xCB [0x06] rfl rfl
theorem rlc_A : Statement (.rlc_A) := of_bytes 0xCB [0x07] rfl rfl
theorem rrc_B : Statement (.rrc_B) := of_bytes 0xCB [0x08] rfl rfl
theorem rrc_C : Statement (.rrc_C) := of_bytes 0xCB [0x09] rfl rfl
theorem rrc_D : Statement (.rrc_D) := of_bytes 0xCB [0x0A] rfl rfl
theorem rrc_E : Statement (.rrc_E) := of_bytes 0xCB [0x0B] rfl rfl
theorem rrc_H : Statement (.rrc_H) := of_bytes 0xCB [0x0C] rfl rfl
theorem rrc_L : Statement (.rrc_L) := of_bytes 0xCB [0x0D] rfl rfl
theorem rrc_atHL : Statement (.rrc_atHL) := of_bytes 0xCB [0x0E] rfl rfl
theorem rrc_A : Statement (.rrc_A) := of_bytes 0xCB [0x0F] rfl rfl
theorem rl_B : Statement (.rl_B) := of_bytes 0xCB [0x10] rfl rfl
theorem rl_C : Statement (.rl_C) := of_bytes 0xCB [0x11] rfl rfl
theorem rl_D : Statement (.rl_D) := of_bytes 0xCB [0x12] rfl rfl
theorem rl_E : Statement (.rl_E) := of_bytes 0xCB [0x13] rfl rfl
theorem rl_H : Statement (.rl_H) := of_bytes 0xCB [0x14] rfl rfl
theorem rl_L : Statement (.rl_L) := of_bytes 0xCB [0x15] rfl rfl
theorem rl_atHL : Statement (.rl_atHL) := of_bytes 0xCB [0x16] rfl rfl
theorem rl_A : Statement (.rl_A) := of_bytes 0xCB [0x17] rfl rfl
theorem rr_B : Statement (.rr_B) := of_bytes 0xCB [0x18] rfl rfl
theorem rr_C : Statement (.rr_C) := of_bytes 0xCB [0x19] rfl rfl
theorem rr_D : Statement (.rr_D) := of_bytes 0xCB [0x1A] rfl rfl
theorem rr_E : Statement (.rr_E) := of_bytes 0xCB [0x1B] rfl rfl
theorem rr_H : Statement (.rr_H) := of_bytes 0xCB [0x1C] rfl rfl
theorem rr_L : Statement (.rr_L) := of_bytes 0xCB [0x1D] rfl rfl
theorem rr_atHL : Statement (.rr_atHL) := of_bytes 0xCB [0x1E] rfl rfl
theorem rr_A : Statement (.rr_A) := of_bytes 0xCB [0x1F] rfl rfl
theorem sla_B : Statement (.sla_B) := of_bytes 0xCB [0x20] rfl rfl
theorem sla_C : Statement (.sla_C) := of_bytes 0xCB [0x21] rfl rfl
theorem sla_D : Statement (.sla_D) := of_bytes 0xCB [0x22] rfl rfl
theorem sla_E : Statement (.sla_E) := of_bytes 0xCB [0x23] rfl rfl
theorem sla_H : Statement (.sla_H) := of_bytes 0xCB [0x24] rfl rfl
theorem sla_L : Statement (.sla_L) := of_bytes 0xCB [0x25] rfl rfl
theorem sla_atHL : Statement (.sla_atHL) := of_bytes 0xCB [0x26] rfl rfl
theorem sla_A : Statement (.sla_A) := of_bytes 0xCB [0x27] rfl rfl
theorem sra_B : Statement (.sra_B) := of_bytes 0xCB [0x28] rfl rfl
theorem sra_C : Statement (.sra_C) := of_bytes 0xCB [0x29] rfl rfl
theorem sra_D : Statement (.sra_D) := of_bytes 0xCB [0x2A] rfl rfl
theorem sra_E : Statement (.sra_E) := of_bytes 0xCB [0x2B] rfl rfl
theorem sra_H : Statement (.sra_H) := of_bytes 0xCB [0x2C] rfl rfl
theorem sra_L : Statement (.sra_L) := of_bytes 0xCB [0x2D] rfl rfl
theorem sra_atHL : Statement (.sra_atHL) := of_bytes 0xCB [0x2E] rfl rfl
theorem sra_A : Statement (.sra_A) := of_bytes 0xCB [0x2F] rfl rfl
theorem swap_B : Statement (.swap_B) := of_bytes 0xCB [0x30] rfl rfl
theorem swap_C : Statement (.swap_C) := of_bytes 0xCB [0x31] rfl rfl
theorem swap_D : Statement (.swap_D) := of_bytes 0xCB [0x32] rfl rfl
theorem swap_E : Statement (.swap_E) := of_bytes 0xCB [0x33] rfl rfl
theorem swap_H : Statement (.swap_H) := of_bytes 0xCB [0x34] rfl rfl
theorem swap_L : Statement (.swap_L) := of_bytes 0xCB [0x35] rfl rfl
theorem swap_atHL : Statement (.swap_atHL) := of_bytes 0xCB [0x36] rfl rfl
theorem swap_A : Statement (.swap_A) := of_bytes 0xCB [0x37] rfl rfl
theorem srl_B : Statement (.srl_B) := of_bytes 0xCB [0x38] rfl rfl
theorem srl_C : Statement (.srl_C) := of_bytes 0xCB [0x39] rfl rfl
theorem srl_D : Statement (.srl_D) := of_bytes 0xCB [0x3A] rfl rfl
theorem srl_E : Statement (.srl_E) := of_bytes 0xCB [0x3B] rfl rfl
theorem srl_H : Statement (.srl_H) := of_bytes 0xCB [0x3C] rfl rfl
theorem srl_L : Statement (.srl_L) := of_bytes 0xCB [0x3D] rfl rfl
theorem srl_atHL : Statement (.srl_atHL) := of_bytes 0xCB [0x3E] rfl rfl
theorem srl_A : Statement (.srl_A) := of_bytes 0xCB [0x3F] rfl rfl
theorem bit_0_B : Statement (.bit_0_B) := of_bytes 0xCB [0x40] rfl rfl
theorem bit_0_C : Statement (.bit_0_C) := of_bytes 0xCB [0x41] rfl rfl
theorem bit_0_D : Statement (.bit_0_D) := of_bytes 0xCB [0x42] rfl rfl
theorem bit_0_E : Statement (.bit_0_E) := of_bytes 0xCB [0x43] rfl rfl
theorem bit_0_H : Statement (.bit_0_H) := of_bytes 0xCB [0x44] rfl rfl
theorem bit_0_L : Statement (.bit_0_L) := of_bytes 0xCB [0x45] rfl rfl
theorem bit_0_atHL : Statement (.bit_0_atHL) := of_bytes 0xCB [0x46] rfl rfl
theorem bit_0_A : Statement (.bit_0_A) := of_bytes 0xCB [0x47] rfl rfl
theorem bit_1_B : Statement (.bit_1_B) := of_bytes 0xCB [0x48] rfl rfl
theorem bit_1_C : Statement (.bit_1_C) := of_bytes 0xCB [0x49] rfl rfl
theorem bit_1_D : Statement (.bit_1_D) := of_bytes 0xCB [0x4A] rfl rfl
theorem bit_1_E : Statement (.bit_1_E) := of_bytes 0xCB [0x4B] rfl rfl
theorem bit_1_H : Statement (.bit_1_H) := of_bytes 0xCB [0x4C] rfl rfl
theorem bit_1_L : Statement (.bit_1_L) := of_bytes 0xCB [0x4D] rfl rfl
theorem bit_1_atHL : Statement (.bit_1_atHL) := of_bytes 0xCB [0x4E] rfl rfl
theorem bit_1_A : Statement (.bit_1_A) := of_bytes 0xCB [0x4F] rfl rfl
theorem bit_2_B : Statement (.bit_2_B) := of_bytes 0xCB [0x50] rfl rfl
theorem bit_2_C : Statement (.bit_2_C) := of_bytes 0xCB [0x51] rfl rfl
theorem bit_2_D : Statement (.bit_2_D) := of_bytes 0xCB [0x52] rfl rfl
theorem bit_2_E : Statement (.bit_2_E) := of_bytes 0xCB [0x53] rfl rfl
theorem bit_2_H : Statement (.bit_2_H) := of_bytes 0xCB [0x54] rfl rfl
theorem bit_2_L : Statement (.bit_2_L) := of_bytes 0xCB [0x55] rfl rfl
theorem bit_2_atHL : Statement (.bit_2_atHL) := of_bytes 0xCB [0x56] rfl rfl
theorem bit_2_A : Statement (.bit_2_A) := of_bytes 0xCB [0x57] rfl rfl
theorem bit_3_B : Statement (.bit_3_B) := of_bytes 0xCB [0x58] rfl rfl
theorem bit_3_C : Statement (.bit_3_C) := of_bytes 0xCB [0x59] rfl rfl
theorem bit_3_D : Statement (.bit_3_D) := of_bytes 0xCB [0x5A] rfl rfl
theorem bit_3_E : Statement (.bit_3_E) := of_bytes 0xCB [0x5B] rfl rfl
theorem bit_3_H : Statement (.bit_3_H) := of_bytes 0xCB [0x5C] rfl rfl
theorem bit_3_L : Statement (.bit_3_L) := of_bytes 0xCB [0x5D] rfl rfl
theorem bit_3_atHL : Statement (.bit_3_atHL) := of_bytes 0xCB [0x5E] rfl rfl
theorem bit_3_A : Statement (.bit_3_A) := of_bytes 0xCB [0x5F] rfl rfl
theorem bit_4_B : Statement (.bit_4_B) := of_bytes 0xCB [0x60] rfl rfl
theorem bit_4_C : Statement (.bit_4_C) := of_bytes 0xCB [0x61] rfl rfl
theorem bit_4_D : Statement (.bit_4_D) := of_bytes 0xCB [0x62] rfl rfl
theorem bit_4_E : Statement (.bit_4_E) := of_bytes 0xCB [0x63] rfl rfl
theorem bit_4_H : Statement (.bit_4_H) := of_bytes 0xCB [0x64] rfl rfl
theorem bit_4_L : Statement (.bit_4_L) := of_bytes 0xCB [0x65] rfl rfl
theorem bit_4_atHL : Statement (.bit_4_atHL) := of_bytes 0xCB [0x66] rfl rfl
theorem bit_4_A : Statement (.bit_4_A) := of_bytes 0xCB [0x67] rfl rfl
theorem bit_5_B : Statement (.bit_5_B) := of_bytes 0xCB [0x68] rfl rfl
theorem bit_5_C : Statement (.bit_5_C) := of_bytes 0xCB [0x69] rfl rfl
theorem bit_5_D : Statement (.bit_5_D) := of_bytes 0xCB [0x6A] rfl rfl
theorem bit_5_E : Statement (.bit_5_E) := of_bytes 0xCB [0x6B] rfl rfl
theorem bit_5_H : Statement (.bit_5_H) := of_bytes 0xCB [0x6C] rfl rfl
theorem bit_5_L : Statement (.bit_5_L) := of_bytes 0xCB [0x6D] rfl rfl
theorem bit_5_atHL : Statement (.bit_5_atHL) := of_bytes 0xCB [0x6E] rfl rfl
theorem bit_5_A : Statement (.bit_5_A) := of_bytes 0xCB [0x6F] rfl rfl
theorem bit_6_B : Statement (.bit_6_B) := of_bytes 0xCB [0x70] rfl rfl
theorem bit_6_C : Statement (.bit_6_C) := of_bytes 0xCB [0x71] rfl rfl
theorem bit_6_D : Statement (.bit_6_D) := of_bytes 0xCB [0x72] rfl rfl
theorem bit_6_E : Statement (.bit_6_E) := of_bytes 0xCB [0x73] rfl rfl
theorem bit_6_H : Statement (.bit_6_H) := of_bytes 0xCB [0x74] rfl rfl
theorem bit_6_L : Statement (.bit_6_L) := of_bytes 0xCB [0x75] rfl rfl
theorem bit_6_atHL : Statement (.bit_6_atHL) := of_bytes 0xCB [0x76] rfl rfl
theorem bit_6_A : Statement (.bit_6_A) := of_bytes 0xCB [0x77] rfl rfl
theorem bit_7_B : Statement (.bit_7_B) := of_bytes 0xCB [0x78] rfl rfl
theorem bit_7_C : Statement (.bit_7_C) := of_bytes 0xCB [0x79] rfl rfl
theorem bit_7_D : Statement (.bit_7_D) := of_bytes 0xCB [0x7A] rfl rfl
theorem bit_7_E : Statement (.bit_7_E) := of_bytes 0xCB [0x7B] rfl rfl
theorem bit_7_H : Statement (.bit_7_H) := of_bytes 0xCB [0x7C] rfl rfl
theorem bit_7_L : Statement (.bit_7_L) := of_bytes 0xCB [0x7D] rfl rfl
theorem bit_7_atHL : Statement (.bit_7_atHL) := of_bytes 0xCB [0x7E] rfl rfl
theorem bit_7_A : Statement (.bit_7_A) := of_bytes 0xCB [0x7F] rfl rfl
theorem res_0_B : Statement (.res_0_B) := of_bytes 0xCB [0x80] rfl rfl
theorem res_0_C : Statement (.res_0_C) := of_bytes 0xCB [0x81] rfl rfl
theorem res_0_D : Statement (.res_0_D) := of_bytes 0xCB [0x82] rfl rfl
theorem res_0_E : Statement (.res_0_E) := of_bytes 0xCB [0x83] rfl rfl
theorem res_0_H : Statement (.res_0_H) := of_bytes 0xCB [0x84] rfl rfl
theorem res_0_L : Statement (.res_0_L) := of_bytes 0xCB [0x85] rfl rfl
theorem res_0_atHL : Statement (.res_0_atHL) := of_bytes 0xCB [0x86] rfl rfl
theorem res_0_A : Statement (.res_0_A) := of_bytes 0xCB [0x87] rfl rfl
theorem res_1_B : Statement (.res_1_B) := of_bytes 0xCB [0x88] rfl rfl
theorem res_1_C : Statement (.res_1_C) := of_bytes 0xCB [0x89] rfl rfl
theorem res_1_D : Statement (.res_1_D) := of_bytes 0xCB [0x8A] rfl rfl
theorem res_1_E : Statement (.res_1_E) := of_bytes 0xCB [0x8B] rfl rfl
theorem res_1_H : Statement (.res_1_H) := of_bytes 0xCB [0x8C] rfl rfl
theorem res_1_L : Statement (.res_1_L) := of_bytes 0xCB [0x8D] rfl rfl
theorem res_1_atHL : Statement (.res_1_atHL) := of_bytes 0xCB [0x8E] rfl rfl
theorem res_1_A : Statement (.res_1_A) := of_bytes 0xCB [0x8F] rfl rfl
theorem res_2_B : Statement (.res_2_B) := of_bytes 0xCB [0x90] rfl rfl
theorem res_2_C : Statement (.res_2_C) := of_bytes 0xCB [0x91] rfl rfl
theorem res_2_D : Statement (.res_2_D) := of_bytes 0xCB [0x92] rfl rfl
theorem res_2_E : Statement (.res_2_E) := of_bytes 0xCB [0x93] rfl rfl
theorem res_2_H : Statement (.res_2_H) := of_bytes 0xCB [0x94] rfl rfl
theorem res_2_L : Statement (.res_2_L) := of_bytes 0xCB [0x95] rfl rfl
theorem res_2_atHL : Statement (.res_2_atHL) := of_bytes 0xCB [0x96] rfl rfl
theorem res_2_A : Statement (.res_2_A) := of_bytes 0xCB [0x97] rfl rfl
theorem res_3_B : Statement (.res_3_B) := of_bytes 0xCB [0x98] rfl rfl
theorem res_3_C : Statement (.res_3_C) := of_bytes 0xCB [0x99] rfl rfl
theorem res_3_D : Statement (.res_3_D) := of_bytes 0xCB [0x9A] rfl rfl
theorem res_3_E : Statement (.res_3_E) := of_bytes 0xCB [0x9B] rfl rfl
theorem res_3_H : Statement (.res_3_H) := of_bytes 0xCB [0x9C] rfl rfl
theorem res_3_L : Statement (.res_3_L) := of_bytes 0xCB [0x9D] rfl rfl
theorem res_3_atHL : Statement (.res_3_atHL) := of_bytes 0xCB [0x9E] rfl rfl
theorem res_3_A : Statement (.res_3_A) := of_bytes 0xCB [0x9F] rfl rfl
theorem res_4_B : Statement (.res_4_B) := of_bytes 0xCB [0xA0] rfl rfl
theorem res_4_C : Statement (.res_4_C) := of_bytes 0xCB [0xA1] rfl rfl
theorem res_4_D : Statement (.res_4_D) := of_bytes 0xCB [0xA2] rfl rfl
theorem res_4_E : Statement (.res_4_E) := of_bytes 0xCB [0xA3] rfl rfl
theorem res_4_H : Statement (.res_4_H) := of_bytes 0xCB [0xA4] rfl rfl
theorem res_4_L : Statement (.res_4_L) := of_bytes 0xCB [0xA5] rfl rfl
theorem res_4_atHL : Statement (.res_4_atHL) := of_bytes 0xCB [0xA6] rfl rfl
theorem res_4_A : Statement (.res_4_A) := of_bytes 0xCB [0xA7] rfl rfl
theorem res_5_B : Statement (.res_5_B) := of_bytes 0xCB [0xA8] rfl rfl
theorem res_5_C : Statement (.res_5_C) := of_bytes 0xCB [0xA9] rfl rfl
theorem res_5_D : Statement (.res_5_D) := of_bytes 0xCB [0xAA] rfl rfl
theorem res_5_E : Statement (.res_5_E) := of_bytes 0xCB [0xAB] rfl rfl
theorem res_5_H : Statement (.res_5_H) := of_bytes 0xCB [0xAC] rfl rfl
theorem res_5_L : Statement (.res_5_L) := of_bytes 0xCB [0xAD] rfl rfl
theorem res_5_atHL : Statement (.res_5_atHL) := of_bytes 0xCB [0xAE] rfl rfl
theorem res_5_A : Statement (.res_5_A) := of_bytes 0xCB [0xAF] rfl rfl
theorem res_6_B : Statement (.res_6_B) := of_bytes 0xCB [0xB0] rfl rfl
theorem res_6_C : Statement (.res_6_C) := of_bytes 0xCB [0xB1] rfl rfl
theorem res_6_D : Statement (.res_6_D) := of_bytes 0xCB [0xB2] rfl rfl
theorem res_6_E : Statement (.res_6_E) := of_bytes 0xCB [0xB3] rfl rfl
theorem res_6_H : Statement (.res_6_H) := of_bytes 0xCB [0xB4] rfl rfl
theorem res_6_L : Statement (.res_6_L) := of_bytes 0xCB [0xB5] rfl rfl
theorem res_6_atHL : Statement (.res_6_atHL) := of_bytes 0xCB [0xB6] rfl rfl
theorem res_6_A : Statement (.res_6_A) := of_bytes 0xCB [0xB7] rfl rfl
theorem res_7_B : Statement (.res_7_B) := of_bytes 0xCB [0xB8] rfl rfl
theorem res_7_C : Statement (.res_7_C) := of_bytes 0xCB [0xB9] rfl rfl
theorem res_7_D : Statement (.res_7_D) := of_bytes 0xCB [0xBA] rfl rfl
theorem res_7_E : Statement (.res_7_E) := of_bytes 0xCB [0xBB] rfl rfl
theorem res_7_H : Statement (.res_7_H) := of_bytes 0xCB [0xBC] rfl rfl
theorem res_7_L : Statement (.res_7_L) := of_bytes 0xCB [0xBD] rfl rfl
theorem res_7_atHL : Statement (.res_7_atHL) := of_bytes 0xCB [0xBE] rfl rfl
theorem res_7_A : Statement (.res_7_A) := of_bytes 0xCB [0xBF] rfl rfl
theorem set_0_B : Statement (.set_0_B) := of_bytes 0xCB [0xC0] rfl rfl
theorem set_0_C : Statement (.set_0_C) := of_bytes 0xCB [0xC1] rfl rfl
theorem set_0_D : Statement (.set_0_D) := of_bytes 0xCB [0xC2] rfl rfl
theorem set_0_E : Statement (.set_0_E) := of_bytes 0xCB [0xC3] rfl rfl
theorem set_0_H : Statement (.set_0_H) := of_bytes 0xCB [0xC4] rfl rfl
theorem set_0_L : Statement (.set_0_L) := of_bytes 0xCB [0xC5] rfl rfl
theorem set_0_atHL : Statement (.set_0_atHL) := of_bytes 0xCB [0xC6] rfl rfl
theorem set_0_A : Statement (.set_0_A) := of_bytes 0xCB [0xC7] rfl rfl
theorem set_1_B : Statement (.set_1_B) := of_bytes 0xCB [0xC8] rfl rfl
theorem set_1_C : Statement (.set_1_C) := of_bytes 0xCB [0xC9] rfl rfl
theorem set_1_D : Statement (.set_1_D) := of_bytes 0xCB [0xCA] rfl rfl
theorem set_1_E : Statement (.set_1_E) := of_bytes 0xCB [0xCB] rfl rfl
theorem set_1_H : Statement (.set_1_H) := of_bytes 0xCB [0xCC] rfl rfl
theorem set_1_L : Statement (.set_1_L) := of_bytes 0xCB [0xCD] rfl rfl
theorem set_1_atHL : Statement (.set_1_atHL) := of_bytes 0xCB [0xCE] rfl rfl
theorem set_1_A : Statement (.set_1_A) := of_bytes 0xCB [0xCF] rfl rfl
theorem set_2_B : Statement (.set_2_B) := of_bytes 0xCB [0xD0] rfl rfl
theorem set_2_C : Statement (.set_2_C) := of_bytes 0xCB [0xD1] rfl rfl
theorem set_2_D : Statement (.set_2_D) := of_bytes 0xCB [0xD2] rfl rfl
theorem set_2_E : Statement (.set_2_E) := of_bytes 0xCB [0xD3] rfl rfl
theorem set_2_H : Statement (.set_2_H) := of_bytes 0xCB [0xD4] rfl rfl
theorem set_2_L : Statement (.set_2_L) := of_bytes 0xCB [0xD5] rfl rfl
theorem set_2_atHL : Statement (.set_2_atHL) := of_bytes 0xCB [0xD6] rfl rfl
theorem set_2_A : Statement (.set_2_A) := of_bytes 0xCB [0xD7] rfl rfl
theorem set_3_B : Statement (.set_3_B) := of_bytes 0xCB [0xD8] rfl rfl
theorem set_3_C : Statement (.set_3_C) := of_bytes 0xCB [0xD9] rfl rfl
theorem set_3_D : Statement (.set_3_D) := of_bytes 0xCB [0xDA] rfl rfl
theorem set_3_E : Statement (.set_3_E) := of_bytes 0xCB [0xDB] rfl rfl
theorem set_3_H : Statement (.set_3_H) := of_bytes 0xCB [0xDC] rfl rfl
theorem set_3_L : Statement (.set_3_L) := of_bytes 0xCB [0xDD] rfl rfl
theorem set_3_atHL : Statement (.set_3_atHL) := of_bytes 0xCB [0xDE] rfl rfl
theorem set_3_A : Statement (.set_3_A) := of_bytes 0xCB [0xDF] rfl rfl
theorem set_4_B : Statement (.set_4_B) := of_bytes 0xCB [0xE0] rfl rfl
theorem set_4_C : Statement (.set_4_C) := of_bytes 0xCB [0xE1] rfl rfl
theorem set_4_D : Statement (.set_4_D) := of_bytes 0xCB [0xE2] rfl rfl
theorem set_4_E : Statement (.set_4_E) := of_bytes 0xCB [0xE3] rfl rfl
theorem set_4_H : Statement (.set_4_H) := of_bytes 0xCB [0xE4] rfl rfl
theorem set_4_L : Statement (.set_4_L) := of_bytes 0xCB [0xE5] rfl rfl
theorem set_4_atHL : Statement (.set_4_atHL) := of_bytes 0xCB [0xE6] rfl rfl
theorem set_4_A : Statement (.set_4_A) := of_bytes 0xCB [0xE7] rfl rfl
theorem set_5_B : Statement (.set_5_B) := of_bytes 0xCB [0xE8] rfl rfl
theorem set_5_C : Statement (.set_5_C) := of_bytes 0xCB [0xE9] rfl rfl
theorem set_5_D : Statement (.set_5_D) := of_bytes 0xCB [0xEA] rfl rfl
theorem set_5_E : Statement (.set_5_E) := of_bytes 0xCB [0xEB] rfl rfl
theorem set_5_H : Statement (.set_5_H) := of_bytes 0xCB [0xEC] rfl rfl
theorem set_5_L : Statement (.set_5_L) := of_bytes 0xCB [0xED] rfl rfl
theorem set_5_atHL : Statement (.set_5_atHL) := of_bytes 0xCB [0xEE] rfl rfl
theorem set_5_A : Statement (.set_5_A) := of_bytes 0xCB [0xEF] rfl rfl
theorem set_6_B : Statement (.set_6_B) := of_bytes 0xCB [0xF0] rfl rfl
theorem set_6_C : Statement (.set_6_C) := of_bytes 0xCB [0xF1] rfl rfl
theorem set_6_D : Statement (.set_6_D) := of_bytes 0xCB [0xF2] rfl rfl
theorem set_6_E : Statement (.set_6_E) := of_bytes 0xCB [0xF3] rfl rfl
theorem set_6_H : Statement (.set_6_H) := of_bytes 0xCB [0xF4] rfl rfl
theorem set_6_L : Statement (.set_6_L) := of_bytes 0xCB [0xF5] rfl rfl
theorem set_6_atHL : Statement (.set_6_atHL) := of_bytes 0xCB [0xF6] rfl rfl
theorem set_6_A : Statement (.set_6_A) := of_bytes 0xCB [0xF7] rfl rfl
theorem set_7_B : Statement (.set_7_B) := of_bytes 0xCB [0xF8] rfl rfl
theorem set_7_C : Statement (.set_7_C) := of_bytes 0xCB [0xF9] rfl rfl
theorem set_7_D : Statement (.set_7_D) := of_bytes 0xCB [0xFA] rfl rfl
theorem set_7_E : Statement (.set_7_E) := of_bytes 0xCB [0xFB] rfl rfl
theorem set_7_H : Statement (.set_7_H) := of_bytes 0xCB [0xFC] rfl rfl
theorem set_7_L : Statement (.set_7_L) := of_bytes 0xCB [0xFD] rfl rfl
theorem set_7_atHL : Statement (.set_7_atHL) := of_bytes 0xCB [0xFE] rfl rfl
theorem set_7_A : Statement (.set_7_A) := of_bytes 0xCB [0xFF] rfl rfl

end Sys2Proof.Laws.EncodedLength
end

