-- ==== Sys2Proof/Laws/Video.lean ====
section
/-! SUPPORT. The decoded views of video memory, the palettes and the sprite table in numbers; what a scanline render
and an advance do to the frame buffer. -/

namespace Sys2Proof.Laws

open Sys2Proof.Machine Sys2Proof.Safety

/-- A bit of a byte as a digit of its number. -/
theorem getLsbD_eq_digit (v : Byte) {k : Nat} (hk : k < 8) : v.getLsbD k = decide (v.toNat / 2 ^ k % 2 = 1) := by
  have h : ∀ (v : Byte) (k : Fin 8), v.getLsbD k.val = decide (v.toNat / 2 ^ k.val % 2 = 1) := by decide +kernel
  exact h v ⟨k, hk⟩

/-- A pixel of the tile cache: the low bit-plane's digit plus twice the high one's (R65). -/
theorem tilePixel_eq (vram : Memory) (t y x : Nat) :
    tilePixel vram t y x =
      BitVec.ofNat 2
        ((vram.read (16 * t + 2 * y)).toNat / 2 ^ (7 - x) % 2 +
          2 * ((vram.read (16 * t + 2 * y + 1)).toNat / 2 ^ (7 - x) % 2)) := by
  have h : ∀ a b : Fin 2,
      ((if decide (b.val = 1) then 2 else 0) ||| (if decide (a.val = 1) then 1 else 0) : BitVec 2) =
        BitVec.ofNat 2 (a.val + 2 * b.val) := by
    decide
  simp only [tilePixel]
  rw [getLsbD_eq_digit _ (show 7 - x < 8 by omega), getLsbD_eq_digit _ (show 7 - x < 8 by omega)]
  exact h ⟨_, Nat.mod_lt _ (by decide)⟩ ⟨_, Nat.mod_lt _ (by decide)⟩

/-- Entry `i` of a palette (R59, R416). -/
theorem paletteShade_eq (b : Byte) (i : BitVec 2) : paletteShade b i = BitVec.ofNat 2 (b.toNat / 4 ^ i.toNat % 4) := by
  have h : ∀ (b : Byte) (i : BitVec 2), paletteShade b i = BitVec.ofNat 2 (b.toNat / 4 ^ i.toNat % 4) := by
    decide +kernel
  exact h b i

/-- The signed tile number of R413. -/
theorem signedTile_eq (ti : Byte) :
    (256 + ti.toInt).toNat = if ti.toNat ≥ 128 then ti.toNat else 256 + ti.toNat := by
  have h : ∀ ti : Byte, (256 + ti.toInt).toNat = if ti.toNat ≥ 128 then ti.toNat else 256 + ti.toNat := by
    decide +kernel
  exact h ti

/-- The even tile of a pair (R414). -/
theorem evenTile_eq (ti : Byte) : (ti &&& 0xFE).toNat = 2 * (ti.toNat / 2) := by
  have h : ∀ ti : Byte, (ti &&& 0xFE).toNat = 2 * (ti.toNat / 2) := by decide +kernel
  exact h ti

/-- When a sprite puts a shade on a pixel, and which one (R414). -/
theorem spriteShade_eq_some {p : Ppu} {sp : Sprite} {ly x : Nat} {shade : Shade} :
    spriteShade p sp ly x = some shade ↔
      ∃ idx, spriteIndex p sp ly x = some idx ∧ idx ≠ 0 ∧ (sp.behind = true → bgIndex p ly x = 0) ∧
        shade = paletteShade (if sp.obp1 then p.obp1 else p.obp0) idx := by
  unfold spriteShade
  cases h : spriteIndex p sp ly x with
  | none => simp
  | some idx =>
    by_cases h0 : idx = 0
    · simp [h0]
    · by_cases hb : sp.behind = true ∧ bgIndex p ly x ≠ 0
      · have hn : ¬ (sp.behind = true → bgIndex p ly x = 0) := fun hc => hb.2 (hc hb.1)
        simp only []
        rw [if_neg h0, if_pos hb]
        constructor
        · intro e
          cases e
        · rintro ⟨_, -, -, hc, -⟩
          exact absurd hc hn
      · have hy : sp.behind = true → bgIndex p ly x = 0 := fun h1 => Classical.byContradiction fun h2 => hb ⟨h1, h2⟩
        simp only [h0, hb, if_false, Option.some.injEq, exists_eq_left', ne_eq, not_false_eq_true, true_and]
        constructor
        · exact fun e => ⟨hy, e.symm⟩
        · exact fun e => e.2.symm

/-- A render writes the 160 pixels of the current line (R412). -/
theorem renderLine_pixel {p : Ppu} (hw : p.frame.wf = true) {x : Nat} (hx : x < 160) :
    p.renderLine.frame.pixel p.line.toNat x = pixelShade p p.line.toNat x := by
  simp only [Ppu.renderLine, Frame.pixel, Frame.line]
  rw [storeGet_storeSet_same _ _ _ hw]
  simp [List.getD, Config.screenWidth, hx]

/-- A render writes no other line (R412). -/
theorem renderLine_pixel_of_ne (p : Ppu) {ly : Nat} (h : ly ≠ p.line.toNat) (x : Nat) :
    p.renderLine.frame.pixel ly x = p.frame.pixel ly x := by
  simp only [Ppu.renderLine, Frame.pixel, Frame.line]
  rw [storeGet_storeSet_of_ne _ _ _ _ _ h]

/-- Only the transition out of VRAM scan writes the frame buffer (R404, R412). -/
theorem transition_frame {p : Ppu} (h : p.phase ≠ .vramScan) : p.transition.1.frame = p.frame := by
  unfold Ppu.transition
  cases hp : p.phase
  · rfl
  · exact absurd hp h
  · simp only [Ppu.leaveHblank]
    split <;> rfl
  · simp only [Ppu.endVblankLine]
    split <;> rfl

end Sys2Proof.Laws
end

