-- ==== Sys2Proof/Tests/Slice0.lean ====
section
/-! SUPPORT. Tests. Expected results are taken from the worked examples and vectors of spec 95_test_vectors.md
(named by its section) or computed by hand from the rule named; words are written out from spec 30_encoding.md. The
last part gives, for every statement with hypotheses, a state and operands that meet them. -/

namespace Sys2Proof.Tests

set_option Elab.async false

open Sys2Proof.Machine Sys2Proof.Safety

/-! Small helpers. -/

/-- The result is a next state that passes `p`. -/
def after (r : Result) (p : State → Bool) : Bool :=
  match r with
  | .next t => p t
  | _ => false

/-- The result is the fault `f`. -/
def faults (r : Result) (f : Fault) : Bool :=
  match r with
  | .fault g => decide (g = f)
  | _ => false

/-- The bus write or evaluation is accepted and its state passes `p`. -/
def accepted (r : Except Fault State) (p : State → Bool) : Bool :=
  match r with
  | .ok t => p t
  | .error _ => false

/-- The bus write or evaluation ends in the fault `f`. -/
def rejected (r : Except Fault State) (f : Fault) : Bool :=
  match r with
  | .ok _ => false
  | .error g => decide (g = f)

/-- The decoder's answer is `i` with nothing left over. -/
def reads (bytes : List Byte) (i : Instr) : Bool :=
  match decode bytes with
  | .ok (j, rest) => decide (j = i) && rest.isEmpty
  | .error _ => false

/-- The instruction the three bytes decode to, run at `s`. -/
def ran (b0 b1 b2 : Byte) (s : State) : Result := exec (decodeBytes b0 b1 b2) s

/-- Four flags from four digits, in the order Z, N, H, C. -/
def znhc (z n h c : Nat) : Flags := { z := z == 1, n := n == 1, h := h == 1, c := c == 1 }

/-- The CPU after reset with F cleared. -/
def k0 : Cpu := { Cpu.reset with f := znhc 0 0 0 0 }

/-- The machine after reset with the CPU `k`. -/
def at_ (k : Cpu) : State := State.reset.withCpu k

/-- The machine after reset with a byte poked into its memory. -/
def poked (k : Cpu) (a : Word) (v : Byte) : State := poke (at_ k) a v

/-- A and the flags after an instruction on A. -/
def aluRow (b0 b1 : Byte) (a : Byte) (f : Flags) (a' : Byte) (f' : Flags) : Bool :=
  after (ran b0 b1 0 (at_ { k0 with a := a, f := f })) fun t => decide (t.cpu.a = a') && decide (t.cpu.f = f')

/-! Decoding: words written out from spec 30_encoding.md R142 to R154, at least one a family. -/

theorem test_decode_load8 :
    (reads [0b01000001] .ld_B_C && reads [0b00000110, 0xAB] (.ld_B_n 0xAB) && reads [0b01111110] .ld_A_atHL &&
      reads [0b01110000] .ld_atHL_B && reads [0b00110110, 0x42] (.ld_atHL_n 0x42) && reads [0b00001010] .ld_A_atBC &&
      reads [0b00010010] .ld_atDE_A && reads [0b11111010, 0x34, 0x12] (.ld_A_atnn 0x1234) &&
      reads [0b11101010, 0x00, 0xC0] (.ld_atnn_A 0xC000) && reads [0b11100000, 0x80] (.ldh_atn_A 0x80) &&
      reads [0b11110010] .ldh_A_atC && reads [0b00101010] .ld_A_atHLi && reads [0b00110010] .ld_atHLd_A) = true := by
  decide +kernel

theorem test_decode_load16 :
    (reads [0b00000001, 0x34, 0x12] (.ld_BC_nn 0x1234) && reads [0b00001000, 0x00, 0xC1] (.ld_atnn_SP 0xC100) &&
      reads [0b11111001] .ld_SP_HL && reads [0b11111000, 0x02] (.ld_HL_SPe 0x02) && reads [0b11000101] .push_BC &&
      reads [0b11110001] .pop_AF) = true := by
  decide +kernel

theorem test_decode_alu8 :
    (reads [0b10000000] .add_A_B && reads [0b10011110] .sbc_A_atHL && reads [0b10111111] .cp_A &&
      reads [0b11001110, 0xFF] (.adc_A_n 0xFF) && reads [0b00110101] .dec_atHL && reads [0b00111100] .inc_A &&
      reads [0b00100111] .daa && reads [0b00101111] .cpl && reads [0b00110111] .scf && reads [0b00111111] .ccf) =
      true := by
  decide +kernel

theorem test_decode_alu16 :
    (reads [0b00001001] .add_HL_BC && reads [0b00110011] .inc_SP && reads [0b00011011] .dec_DE &&
      reads [0b11101000, 0xFF] (.add_SP_e 0xFF)) = true := by
  decide +kernel

theorem test_decode_rotate_bit :
    (reads [0b00000111] .rlca && reads [0xCB, 0b00000000] .rlc_B && reads [0xCB, 0b00000110] .rlc_atHL &&
      reads [0xCB, 0b00010001] .rl_C && reads [0xCB, 0b00110111] .swap_A && reads [0xCB, 0b01111100] .bit_7_H &&
      reads [0xCB, 0b10111110] .res_7_atHL && reads [0xCB, 0b11111111] .set_7_A) = true := by
  decide +kernel

theorem test_decode_control :
    (reads [0b11001010, 0x00, 0x02] (.jp_Z_nn 0x0200) && reads [0b00011000, 0xFE] (.jr_e 0xFE) &&
      reads [0b11101001] .jp_HL && reads [0b11000100, 0x34, 0x12] (.call_NZ_nn 0x1234) && reads [0b11011000] .ret_C &&
      reads [0b11011001] .reti && reads [0b11111111] .rst_38) = true := by
  decide +kernel

theorem test_decode_system :
    (reads [0b00000000] .nop && reads [0b01110110] .halt && reads [0b00010000, 0x00] .stop &&
      reads [0b11110011] .di && reads [0b11111011] .ei && reads [0b11111101] .reserved_FD) = true := by
  decide +kernel

/-- R140: missing bytes are the only thing the decoder refuses. -/
theorem test_decode_truncated :
    (match decode [0xC3, 0x50] with
      | .error (.truncated 0xC3) => true
      | _ => false) = true := by
  decide

/-- R326: the prefix consumes its second byte whatever it is. -/
theorem test_decode_prefix_prefix : reads [0xCB, 0xCB] .set_1_E = true := by decide +kernel

/-- The rows of the table that the statements reach through their fields (R153, R154). -/
theorem test_rows_by_field :
    Instr.ldRegReg .b .c = .ld_B_C ∧ Instr.ldRegMem .l = .ld_L_atHL ∧ Instr.ldMemReg .h = .ld_atHL_H ∧
    Instr.aluReg .sbc .e = .sbc_A_E ∧ Instr.aluImm .xor 0x0F = .xor_n 0x0F ∧ Instr.decReg .d = .dec_D ∧
    Instr.push .af = .push_AF ∧ Instr.jrCond .nc 0x10 = .jr_NC_e 0x10 ∧ Instr.callCond .z 0x1234 = .call_Z_nn 0x1234 ∧
    Instr.rst 5 = .rst_28 ∧ Instr.rotReg .sra .a = .sra_A ∧ Instr.bitMem 3 = .bit_3_atHL ∧
    Instr.resReg 6 .b = .res_6_B ∧ Instr.setMem 7 = .set_7_atHL := by
  decide +kernel

/-! Every constructor's word, written out from the bit patterns of spec 30_encoding.md R153 and R154 and the field values
of R144 (immediates 5A and 1234; PREFIX CB alone is no word). -/

/-- Every listed word decodes to its instruction, with nothing left over. -/
def words (rows : List (List Byte × Instr)) : Bool := rows.all fun w => reads w.1 w.2

/-- z = 0. -/
theorem test_words_x0_z0 :
    words
      [([0b00000000], .nop), ([0b00001000, 0x34, 0x12], .ld_atnn_SP 0x1234), ([0b00010000, 0x5A], .stop),
       ([0b00011000, 0x5A], .jr_e 0x5A), ([0b00100000, 0x5A], .jr_NZ_e 0x5A), ([0b00101000, 0x5A], .jr_Z_e 0x5A),
       ([0b00110000, 0x5A], .jr_NC_e 0x5A), ([0b00111000, 0x5A], .jr_C_e 0x5A)] = true := by
  decide +kernel

/-- LD rr,nn; ADD HL,rr; INC rr; DEC rr. -/
theorem test_words_x0_pairs :
    words
      [([0b00000001, 0x34, 0x12], .ld_BC_nn 0x1234), ([0b00010001, 0x34, 0x12], .ld_DE_nn 0x1234),
       ([0b00100001, 0x34, 0x12], .ld_HL_nn 0x1234), ([0b00110001, 0x34, 0x12], .ld_SP_nn 0x1234),
       ([0b00001001], .add_HL_BC), ([0b00011001], .add_HL_DE), ([0b00101001], .add_HL_HL),
       ([0b00111001], .add_HL_SP), ([0b00000011], .inc_BC), ([0b00010011], .inc_DE), ([0b00100011], .inc_HL),
       ([0b00110011], .inc_SP), ([0b00001011], .dec_BC), ([0b00011011], .dec_DE), ([0b00101011], .dec_HL),
       ([0b00111011], .dec_SP)] = true := by
  decide +kernel

/-- z = 2. -/
theorem test_words_x0_z2 :
    words
      [([0b00000010], .ld_atBC_A), ([0b00010010], .ld_atDE_A), ([0b00001010], .ld_A_atBC),
       ([0b00011010], .ld_A_atDE), ([0b00100010], .ld_atHLi_A), ([0b00110010], .ld_atHLd_A),
       ([0b00101010], .ld_A_atHLi), ([0b00111010], .ld_A_atHLd)] = true := by
  decide +kernel

/-- INC r; DEC r; LD r,n. -/
theorem test_words_x0_bytes :
    words
      [([0b00000100], .inc_B), ([0b00001100], .inc_C), ([0b00010100], .inc_D), ([0b00011100], .inc_E),
       ([0b00100100], .inc_H), ([0b00101100], .inc_L), ([0b00110100], .inc_atHL), ([0b00111100], .inc_A),
       ([0b00000101], .dec_B), ([0b00001101], .dec_C), ([0b00010101], .dec_D), ([0b00011101], .dec_E),
       ([0b00100101], .dec_H), ([0b00101101], .dec_L), ([0b00110101], .dec_atHL), ([0b00111101], .dec_A),
       ([0b00000110, 0x5A], .ld_B_n 0x5A), ([0b00001110, 0x5A], .ld_C_n 0x5A), ([0b00010110, 0x5A], .ld_D_n 0x5A),
       ([0b00011110, 0x5A], .ld_E_n 0x5A), ([0b00100110, 0x5A], .ld_H_n 0x5A), ([0b00101110, 0x5A], .ld_L_n 0x5A),
       ([0b00110110, 0x5A], .ld_atHL_n 0x5A), ([0b00111110, 0x5A], .ld_A_n 0x5A)] = true := by
  decide +kernel

/-- z = 7. -/
theorem test_words_x0_z7 :
    words
      [([0b00000111], .rlca), ([0b00001111], .rrca), ([0b00010111], .rla), ([0b00011111], .rra),
       ([0b00100111], .daa), ([0b00101111], .cpl), ([0b00110111], .scf), ([0b00111111], .ccf)] = true := by
  decide +kernel

/-- 01ddd..., d = B. -/
theorem test_words_x1_B :
    words
      [([0b01000000], .ld_B_B), ([0b01000001], .ld_B_C), ([0b01000010], .ld_B_D), ([0b01000011], .ld_B_E),
       ([0b01000100], .ld_B_H), ([0b01000101], .ld_B_L), ([0b01000110], .ld_B_atHL), ([0b01000111], .ld_B_A)] = true := by
  decide +kernel

/-- 01ddd..., d = C. -/
theorem test_words_x1_C :
    words
      [([0b01001000], .ld_C_B), ([0b01001001], .ld_C_C), ([0b01001010], .ld_C_D), ([0b01001011], .ld_C_E),
       ([0b01001100], .ld_C_H), ([0b01001101], .ld_C_L), ([0b01001110], .ld_C_atHL), ([0b01001111], .ld_C_A)] = true := by
  decide +kernel

/-- 01ddd..., d = D. -/
theorem test_words_x1_D :
    words
      [([0b01010000], .ld_D_B), ([0b01010001], .ld_D_C), ([0b01010010], .ld_D_D), ([0b01010011], .ld_D_E),
       ([0b01010100], .ld_D_H), ([0b01010101], .ld_D_L), ([0b01010110], .ld_D_atHL), ([0b01010111], .ld_D_A)] = true := by
  decide +kernel

/-- 01ddd..., d = E. -/
theorem test_words_x1_E :
    words
      [([0b01011000], .ld_E_B), ([0b01011001], .ld_E_C), ([0b01011010], .ld_E_D), ([0b01011011], .ld_E_E),
       ([0b01011100], .ld_E_H), ([0b01011101], .ld_E_L), ([0b01011110], .ld_E_atHL), ([0b01011111], .ld_E_A)] = true := by
  decide +kernel

/-- 01ddd..., d = H. -/
theorem test_words_x1_H :
    words
      [([0b01100000], .ld_H_B), ([0b01100001], .ld_H_C), ([0b01100010], .ld_H_D), ([0b01100011], .ld_H_E),
       ([0b01100100], .ld_H_H), ([0b01100101], .ld_H_L), ([0b01100110], .ld_H_atHL), ([0b01100111], .ld_H_A)] = true := by
  decide +kernel

/-- 01ddd..., d = L. -/
theorem test_words_x1_L :
    words
      [([0b01101000], .ld_L_B), ([0b01101001], .ld_L_C), ([0b01101010], .ld_L_D), ([0b01101011], .ld_L_E),
       ([0b01101100], .ld_L_H), ([0b01101101], .ld_L_L), ([0b01101110], .ld_L_atHL), ([0b01101111], .ld_L_A)] = true := by
  decide +kernel

/-- 01ddd..., d = atHL. -/
theorem test_words_x1_atHL :
    words
      [([0b01110000], .ld_atHL_B), ([0b01110001], .ld_atHL_C), ([0b01110010], .ld_atHL_D),
       ([0b01110011], .ld_atHL_E), ([0b01110100], .ld_atHL_H), ([0b01110101], .ld_atHL_L), ([0b01110110], .halt),
       ([0b01110111], .ld_atHL_A)] = true := by
  decide +kernel

/-- 01ddd..., d = A. -/
theorem test_words_x1_A :
    words
      [([0b01111000], .ld_A_B), ([0b01111001], .ld_A_C), ([0b01111010], .ld_A_D), ([0b01111011], .ld_A_E),
       ([0b01111100], .ld_A_H), ([0b01111101], .ld_A_L), ([0b01111110], .ld_A_atHL), ([0b01111111], .ld_A_A)] = true := by
  decide +kernel

/-- 10aaa.... -/
theorem test_words_x2_add :
    words
      [([0b10000000], .add_A_B), ([0b10000001], .add_A_C), ([0b10000010], .add_A_D), ([0b10000011], .add_A_E),
       ([0b10000100], .add_A_H), ([0b10000101], .add_A_L), ([0b10000110], .add_A_atHL), ([0b10000111], .add_A_A)] = true := by
  decide +kernel

/-- 10aaa.... -/
theorem test_words_x2_adc :
    words
      [([0b10001000], .adc_A_B), ([0b10001001], .adc_A_C), ([0b10001010], .adc_A_D), ([0b10001011], .adc_A_E),
       ([0b10001100], .adc_A_H), ([0b10001101], .adc_A_L), ([0b10001110], .adc_A_atHL), ([0b10001111], .adc_A_A)] = true := by
  decide +kernel

/-- 10aaa.... -/
theorem test_words_x2_sub :
    words
      [([0b10010000], .sub_B), ([0b10010001], .sub_C), ([0b10010010], .sub_D), ([0b10010011], .sub_E),
       ([0b10010100], .sub_H), ([0b10010101], .sub_L), ([0b10010110], .sub_atHL), ([0b10010111], .sub_A)] = true := by
  decide +kernel

/-- 10aaa.... -/
theorem test_words_x2_sbc :
    words
      [([0b10011000], .sbc_A_B), ([0b10011001], .sbc_A_C), ([0b10011010], .sbc_A_D), ([0b10011011], .sbc_A_E),
       ([0b10011100], .sbc_A_H), ([0b10011101], .sbc_A_L), ([0b10011110], .sbc_A_atHL), ([0b10011111], .sbc_A_A)] = true := by
  decide +kernel

/-- 10aaa.... -/
theorem test_words_x2_and :
    words
      [([0b10100000], .and_B), ([0b10100001], .and_C), ([0b10100010], .and_D), ([0b10100011], .and_E),
       ([0b10100100], .and_H), ([0b10100101], .and_L), ([0b10100110], .and_atHL), ([0b10100111], .and_A)] = true := by
  decide +kernel

/-- 10aaa.... -/
theorem test_words_x2_xor :
    words
      [([0b10101000], .xor_B), ([0b10101001], .xor_C), ([0b10101010], .xor_D), ([0b10101011], .xor_E),
       ([0b10101100], .xor_H), ([0b10101101], .xor_L), ([0b10101110], .xor_atHL), ([0b10101111], .xor_A)] = true := by
  decide +kernel

/-- 10aaa.... -/
theorem test_words_x2_or :
    words
      [([0b10110000], .or_B), ([0b10110001], .or_C), ([0b10110010], .or_D), ([0b10110011], .or_E),
       ([0b10110100], .or_H), ([0b10110101], .or_L), ([0b10110110], .or_atHL), ([0b10110111], .or_A)] = true := by
  decide +kernel

/-- 10aaa.... -/
theorem test_words_x2_cp :
    words
      [([0b10111000], .cp_B), ([0b10111001], .cp_C), ([0b10111010], .cp_D), ([0b10111011], .cp_E),
       ([0b10111100], .cp_H), ([0b10111101], .cp_L), ([0b10111110], .cp_atHL), ([0b10111111], .cp_A)] = true := by
  decide +kernel

/-- RET cc; JP cc,nn; CALL cc,nn. -/
theorem test_words_x3_cond :
    words
      [([0b11000000], .ret_NZ), ([0b11001000], .ret_Z), ([0b11010000], .ret_NC), ([0b11011000], .ret_C),
       ([0b11000010, 0x34, 0x12], .jp_NZ_nn 0x1234), ([0b11001010, 0x34, 0x12], .jp_Z_nn 0x1234),
       ([0b11010010, 0x34, 0x12], .jp_NC_nn 0x1234), ([0b11011010, 0x34, 0x12], .jp_C_nn 0x1234),
       ([0b11000100, 0x34, 0x12], .call_NZ_nn 0x1234), ([0b11001100, 0x34, 0x12], .call_Z_nn 0x1234),
       ([0b11010100, 0x34, 0x12], .call_NC_nn 0x1234), ([0b11011100, 0x34, 0x12], .call_C_nn 0x1234)] = true := by
  decide +kernel

/-- POP rr; PUSH rr. -/
theorem test_words_x3_stack :
    words
      [([0b11000001], .pop_BC), ([0b11010001], .pop_DE), ([0b11100001], .pop_HL), ([0b11110001], .pop_AF),
       ([0b11000101], .push_BC), ([0b11010101], .push_DE), ([0b11100101], .push_HL), ([0b11110101], .push_AF)] = true := by
  decide +kernel

/-- ALU A,n; RST t. -/
theorem test_words_x3_alu_rst :
    words
      [([0b11000110, 0x5A], .add_A_n 0x5A), ([0b11001110, 0x5A], .adc_A_n 0x5A), ([0b11010110, 0x5A], .sub_n 0x5A),
       ([0b11011110, 0x5A], .sbc_A_n 0x5A), ([0b11100110, 0x5A], .and_n 0x5A), ([0b11101110, 0x5A], .xor_n 0x5A),
       ([0b11110110, 0x5A], .or_n 0x5A), ([0b11111110, 0x5A], .cp_n 0x5A), ([0b11000111], .rst_00),
       ([0b11001111], .rst_08), ([0b11010111], .rst_10), ([0b11011111], .rst_18), ([0b11100111], .rst_20),
       ([0b11101111], .rst_28), ([0b11110111], .rst_30), ([0b11111111], .rst_38)] = true := by
  decide +kernel

/-- the rest of x = 3. -/
theorem test_words_x3_others :
    words
      [([0b11000011, 0x34, 0x12], .jp_nn 0x1234), ([0b11001001], .ret), ([0b11011001], .reti),
       ([0b11001101, 0x34, 0x12], .call_nn 0x1234), ([0b11100000, 0x5A], .ldh_atn_A 0x5A),
       ([0b11110000, 0x5A], .ldh_A_atn 0x5A), ([0b11100010], .ldh_atC_A), ([0b11110010], .ldh_A_atC),
       ([0b11101000, 0x5A], .add_SP_e 0x5A), ([0b11111000, 0x5A], .ld_HL_SPe 0x5A), ([0b11101001], .jp_HL),
       ([0b11111001], .ld_SP_HL), ([0b11101010, 0x34, 0x12], .ld_atnn_A 0x1234),
       ([0b11111010, 0x34, 0x12], .ld_A_atnn 0x1234), ([0b11110011], .di), ([0b11111011], .ei)] = true := by
  decide +kernel

/-- the reserved values (R149). -/
theorem test_words_x3_reserved :
    words
      [([0b11010011], .reserved_D3), ([0b11011011], .reserved_DB), ([0b11011101], .reserved_DD),
       ([0b11100011], .reserved_E3), ([0b11100100], .reserved_E4), ([0b11101011], .reserved_EB),
       ([0b11101100], .reserved_EC), ([0b11101101], .reserved_ED), ([0b11110100], .reserved_F4),
       ([0b11111100], .reserved_FC), ([0b11111101], .reserved_FD)] = true := by
  decide +kernel

/-- R154, group 0. -/
theorem test_words_cb_rlc :
    words
      [([0xCB, 0b00000000], .rlc_B), ([0xCB, 0b00000001], .rlc_C), ([0xCB, 0b00000010], .rlc_D),
       ([0xCB, 0b00000011], .rlc_E), ([0xCB, 0b00000100], .rlc_H), ([0xCB, 0b00000101], .rlc_L),
       ([0xCB, 0b00000110], .rlc_atHL), ([0xCB, 0b00000111], .rlc_A)] = true := by
  decide +kernel

/-- R154, group 0. -/
theorem test_words_cb_rrc :
    words
      [([0xCB, 0b00001000], .rrc_B), ([0xCB, 0b00001001], .rrc_C), ([0xCB, 0b00001010], .rrc_D),
       ([0xCB, 0b00001011], .rrc_E), ([0xCB, 0b00001100], .rrc_H), ([0xCB, 0b00001101], .rrc_L),
       ([0xCB, 0b00001110], .rrc_atHL), ([0xCB, 0b00001111], .rrc_A)] = true := by
  decide +kernel

/-- R154, group 0. -/
theorem test_words_cb_rl :
    words
      [([0xCB, 0b00010000], .rl_B), ([0xCB, 0b00010001], .rl_C), ([0xCB, 0b00010010], .rl_D),
       ([0xCB, 0b00010011], .rl_E), ([0xCB, 0b00010100], .rl_H), ([0xCB, 0b00010101], .rl_L),
       ([0xCB, 0b00010110], .rl_atHL), ([0xCB, 0b00010111], .rl_A)] = true := by
  decide +kernel

/-- R154, group 0. -/
theorem test_words_cb_rr :
    words
      [([0xCB, 0b00011000], .rr_B), ([0xCB, 0b00011001], .rr_C), ([0xCB, 0b00011010], .rr_D),
       ([0xCB, 0b00011011], .rr_E), ([0xCB, 0b00011100], .rr_H), ([0xCB, 0b00011101], .rr_L),
       ([0xCB, 0b00011110], .rr_atHL), ([0xCB, 0b00011111], .rr_A)] = true := by
  decide +kernel

/-- R154, group 0. -/
theorem test_words_cb_sla :
    words
      [([0xCB, 0b00100000], .sla_B), ([0xCB, 0b00100001], .sla_C), ([0xCB, 0b00100010], .sla_D),
       ([0xCB, 0b00100011], .sla_E), ([0xCB, 0b00100100], .sla_H), ([0xCB, 0b00100101], .sla_L),
       ([0xCB, 0b00100110], .sla_atHL), ([0xCB, 0b00100111], .sla_A)] = true := by
  decide +kernel

/-- R154, group 0. -/
theorem test_words_cb_sra :
    words
      [([0xCB, 0b00101000], .sra_B), ([0xCB, 0b00101001], .sra_C), ([0xCB, 0b00101010], .sra_D),
       ([0xCB, 0b00101011], .sra_E), ([0xCB, 0b00101100], .sra_H), ([0xCB, 0b00101101], .sra_L),
       ([0xCB, 0b00101110], .sra_atHL), ([0xCB, 0b00101111], .sra_A)] = true := by
  decide +kernel

/-- R154, group 0. -/
theorem test_words_cb_swap :
    words
      [([0xCB, 0b00110000], .swap_B), ([0xCB, 0b00110001], .swap_C), ([0xCB, 0b00110010], .swap_D),
       ([0xCB, 0b00110011], .swap_E), ([0xCB, 0b00110100], .swap_H), ([0xCB, 0b00110101], .swap_L),
       ([0xCB, 0b00110110], .swap_atHL), ([0xCB, 0b00110111], .swap_A)] = true := by
  decide +kernel

/-- R154, group 0. -/
theorem test_words_cb_srl :
    words
      [([0xCB, 0b00111000], .srl_B), ([0xCB, 0b00111001], .srl_C), ([0xCB, 0b00111010], .srl_D),
       ([0xCB, 0b00111011], .srl_E), ([0xCB, 0b00111100], .srl_H), ([0xCB, 0b00111101], .srl_L),
       ([0xCB, 0b00111110], .srl_atHL), ([0xCB, 0b00111111], .srl_A)] = true := by
  decide +kernel

/-- R154, group 1. -/
theorem test_words_cb_bit_0_1 :
    words
      [([0xCB, 0b01000000], .bit_0_B), ([0xCB, 0b01000001], .bit_0_C), ([0xCB, 0b01000010], .bit_0_D),
       ([0xCB, 0b01000011], .bit_0_E), ([0xCB, 0b01000100], .bit_0_H), ([0xCB, 0b01000101], .bit_0_L),
       ([0xCB, 0b01000110], .bit_0_atHL), ([0xCB, 0b01000111], .bit_0_A), ([0xCB, 0b01001000], .bit_1_B),
       ([0xCB, 0b01001001], .bit_1_C), ([0xCB, 0b01001010], .bit_1_D), ([0xCB, 0b01001011], .bit_1_E),
       ([0xCB, 0b01001100], .bit_1_H), ([0xCB, 0b01001101], .bit_1_L), ([0xCB, 0b01001110], .bit_1_atHL),
       ([0xCB, 0b01001111], .bit_1_A)] = true := by
  decide +kernel

/-- R154, group 1. -/
theorem test_words_cb_bit_2_3 :
    words
      [([0xCB, 0b01010000], .bit_2_B), ([0xCB, 0b01010001], .bit_2_C), ([0xCB, 0b01010010], .bit_2_D),
       ([0xCB, 0b01010011], .bit_2_E), ([0xCB, 0b01010100], .bit_2_H), ([0xCB, 0b01010101], .bit_2_L),
       ([0xCB, 0b01010110], .bit_2_atHL), ([0xCB, 0b01010111], .bit_2_A), ([0xCB, 0b01011000], .bit_3_B),
       ([0xCB, 0b01011001], .bit_3_C), ([0xCB, 0b01011010], .bit_3_D), ([0xCB, 0b01011011], .bit_3_E),
       ([0xCB, 0b01011100], .bit_3_H), ([0xCB, 0b01011101], .bit_3_L), ([0xCB, 0b01011110], .bit_3_atHL),
       ([0xCB, 0b01011111], .bit_3_A)] = true := by
  decide +kernel

/-- R154, group 1. -/
theorem test_words_cb_bit_4_5 :
    words
      [([0xCB, 0b01100000], .bit_4_B), ([0xCB, 0b01100001], .bit_4_C), ([0xCB, 0b01100010], .bit_4_D),
       ([0xCB, 0b01100011], .bit_4_E), ([0xCB, 0b01100100], .bit_4_H), ([0xCB, 0b01100101], .bit_4_L),
       ([0xCB, 0b01100110], .bit_4_atHL), ([0xCB, 0b01100111], .bit_4_A), ([0xCB, 0b01101000], .bit_5_B),
       ([0xCB, 0b01101001], .bit_5_C), ([0xCB, 0b01101010], .bit_5_D), ([0xCB, 0b01101011], .bit_5_E),
       ([0xCB, 0b01101100], .bit_5_H), ([0xCB, 0b01101101], .bit_5_L), ([0xCB, 0b01101110], .bit_5_atHL),
       ([0xCB, 0b01101111], .bit_5_A)] = true := by
  decide +kernel

/-- R154, group 1. -/
theorem test_words_cb_bit_6_7 :
    words
      [([0xCB, 0b01110000], .bit_6_B), ([0xCB, 0b01110001], .bit_6_C), ([0xCB, 0b01110010], .bit_6_D),
       ([0xCB, 0b01110011], .bit_6_E), ([0xCB, 0b01110100], .bit_6_H), ([0xCB, 0b01110101], .bit_6_L),
       ([0xCB, 0b01110110], .bit_6_atHL), ([0xCB, 0b01110111], .bit_6_A), ([0xCB, 0b01111000], .bit_7_B),
       ([0xCB, 0b01111001], .bit_7_C), ([0xCB, 0b01111010], .bit_7_D), ([0xCB, 0b01111011], .bit_7_E),
       ([0xCB, 0b01111100], .bit_7_H), ([0xCB, 0b01111101], .bit_7_L), ([0xCB, 0b01111110], .bit_7_atHL),
       ([0xCB, 0b01111111], .bit_7_A)] = true := by
  decide +kernel

/-- R154, group 2. -/
theorem test_words_cb_res_0_1 :
    words
      [([0xCB, 0b10000000], .res_0_B), ([0xCB, 0b10000001], .res_0_C), ([0xCB, 0b10000010], .res_0_D),
       ([0xCB, 0b10000011], .res_0_E), ([0xCB, 0b10000100], .res_0_H), ([0xCB, 0b10000101], .res_0_L),
       ([0xCB, 0b10000110], .res_0_atHL), ([0xCB, 0b10000111], .res_0_A), ([0xCB, 0b10001000], .res_1_B),
       ([0xCB, 0b10001001], .res_1_C), ([0xCB, 0b10001010], .res_1_D), ([0xCB, 0b10001011], .res_1_E),
       ([0xCB, 0b10001100], .res_1_H), ([0xCB, 0b10001101], .res_1_L), ([0xCB, 0b10001110], .res_1_atHL),
       ([0xCB, 0b10001111], .res_1_A)] = true := by
  decide +kernel

/-- R154, group 2. -/
theorem test_words_cb_res_2_3 :
    words
      [([0xCB, 0b10010000], .res_2_B), ([0xCB, 0b10010001], .res_2_C), ([0xCB, 0b10010010], .res_2_D),
       ([0xCB, 0b10010011], .res_2_E), ([0xCB, 0b10010100], .res_2_H), ([0xCB, 0b10010101], .res_2_L),
       ([0xCB, 0b10010110], .res_2_atHL), ([0xCB, 0b10010111], .res_2_A), ([0xCB, 0b10011000], .res_3_B),
       ([0xCB, 0b10011001], .res_3_C), ([0xCB, 0b10011010], .res_3_D), ([0xCB, 0b10011011], .res_3_E),
       ([0xCB, 0b10011100], .res_3_H), ([0xCB, 0b10011101], .res_3_L), ([0xCB, 0b10011110], .res_3_atHL),
       ([0xCB, 0b10011111], .res_3_A)] = true := by
  decide +kernel

/-- R154, group 2. -/
theorem test_words_cb_res_4_5 :
    words
      [([0xCB, 0b10100000], .res_4_B), ([0xCB, 0b10100001], .res_4_C), ([0xCB, 0b10100010], .res_4_D),
       ([0xCB, 0b10100011], .res_4_E), ([0xCB, 0b10100100], .res_4_H), ([0xCB, 0b10100101], .res_4_L),
       ([0xCB, 0b10100110], .res_4_atHL), ([0xCB, 0b10100111], .res_4_A), ([0xCB, 0b10101000], .res_5_B),
       ([0xCB, 0b10101001], .res_5_C), ([0xCB, 0b10101010], .res_5_D), ([0xCB, 0b10101011], .res_5_E),
       ([0xCB, 0b10101100], .res_5_H), ([0xCB, 0b10101101], .res_5_L), ([0xCB, 0b10101110], .res_5_atHL),
       ([0xCB, 0b10101111], .res_5_A)] = true := by
  decide +kernel

/-- R154, group 2. -/
theorem test_words_cb_res_6_7 :
    words
      [([0xCB, 0b10110000], .res_6_B), ([0xCB, 0b10110001], .res_6_C), ([0xCB, 0b10110010], .res_6_D),
       ([0xCB, 0b10110011], .res_6_E), ([0xCB, 0b10110100], .res_6_H), ([0xCB, 0b10110101], .res_6_L),
       ([0xCB, 0b10110110], .res_6_atHL), ([0xCB, 0b10110111], .res_6_A), ([0xCB, 0b10111000], .res_7_B),
       ([0xCB, 0b10111001], .res_7_C), ([0xCB, 0b10111010], .res_7_D), ([0xCB, 0b10111011], .res_7_E),
       ([0xCB, 0b10111100], .res_7_H), ([0xCB, 0b10111101], .res_7_L), ([0xCB, 0b10111110], .res_7_atHL),
       ([0xCB, 0b10111111], .res_7_A)] = true := by
  decide +kernel

/-- R154, group 3. -/
theorem test_words_cb_set_0_1 :
    words
      [([0xCB, 0b11000000], .set_0_B), ([0xCB, 0b11000001], .set_0_C), ([0xCB, 0b11000010], .set_0_D),
       ([0xCB, 0b11000011], .set_0_E), ([0xCB, 0b11000100], .set_0_H), ([0xCB, 0b11000101], .set_0_L),
       ([0xCB, 0b11000110], .set_0_atHL), ([0xCB, 0b11000111], .set_0_A), ([0xCB, 0b11001000], .set_1_B),
       ([0xCB, 0b11001001], .set_1_C), ([0xCB, 0b11001010], .set_1_D), ([0xCB, 0b11001011], .set_1_E),
       ([0xCB, 0b11001100], .set_1_H), ([0xCB, 0b11001101], .set_1_L), ([0xCB, 0b11001110], .set_1_atHL),
       ([0xCB, 0b11001111], .set_1_A)] = true := by
  decide +kernel

/-- R154, group 3. -/
theorem test_words_cb_set_2_3 :
    words
      [([0xCB, 0b11010000], .set_2_B), ([0xCB, 0b11010001], .set_2_C), ([0xCB, 0b11010010], .set_2_D),
       ([0xCB, 0b11010011], .set_2_E), ([0xCB, 0b11010100], .set_2_H), ([0xCB, 0b11010101], .set_2_L),
       ([0xCB, 0b11010110], .set_2_atHL), ([0xCB, 0b11010111], .set_2_A), ([0xCB, 0b11011000], .set_3_B),
       ([0xCB, 0b11011001], .set_3_C), ([0xCB, 0b11011010], .set_3_D), ([0xCB, 0b11011011], .set_3_E),
       ([0xCB, 0b11011100], .set_3_H), ([0xCB, 0b11011101], .set_3_L), ([0xCB, 0b11011110], .set_3_atHL),
       ([0xCB, 0b11011111], .set_3_A)] = true := by
  decide +kernel

/-- R154, group 3. -/
theorem test_words_cb_set_4_5 :
    words
      [([0xCB, 0b11100000], .set_4_B), ([0xCB, 0b11100001], .set_4_C), ([0xCB, 0b11100010], .set_4_D),
       ([0xCB, 0b11100011], .set_4_E), ([0xCB, 0b11100100], .set_4_H), ([0xCB, 0b11100101], .set_4_L),
       ([0xCB, 0b11100110], .set_4_atHL), ([0xCB, 0b11100111], .set_4_A), ([0xCB, 0b11101000], .set_5_B),
       ([0xCB, 0b11101001], .set_5_C), ([0xCB, 0b11101010], .set_5_D), ([0xCB, 0b11101011], .set_5_E),
       ([0xCB, 0b11101100], .set_5_H), ([0xCB, 0b11101101], .set_5_L), ([0xCB, 0b11101110], .set_5_atHL),
       ([0xCB, 0b11101111], .set_5_A)] = true := by
  decide +kernel

/-- R154, group 3. -/
theorem test_words_cb_set_6_7 :
    words
      [([0xCB, 0b11110000], .set_6_B), ([0xCB, 0b11110001], .set_6_C), ([0xCB, 0b11110010], .set_6_D),
       ([0xCB, 0b11110011], .set_6_E), ([0xCB, 0b11110100], .set_6_H), ([0xCB, 0b11110101], .set_6_L),
       ([0xCB, 0b11110110], .set_6_atHL), ([0xCB, 0b11110111], .set_6_A), ([0xCB, 0b11111000], .set_7_B),
       ([0xCB, 0b11111001], .set_7_C), ([0xCB, 0b11111010], .set_7_D), ([0xCB, 0b11111011], .set_7_E),
       ([0xCB, 0b11111100], .set_7_H), ([0xCB, 0b11111101], .set_7_L), ([0xCB, 0b11111110], .set_7_atHL),
       ([0xCB, 0b11111111], .set_7_A)] = true := by
  decide +kernel

/-! The smoke test of WellFormed, and the host's two entry points. -/

theorem test_wellFormed_refuses_the_lone_prefix : Instr.wellFormed .prefix_CB = false := by decide

theorem test_wellFormed_accepts : (Instr.wellFormed (.jp_nn 0x0150) && Instr.wellFormed .reserved_D3) = true := by decide

theorem test_decodeTableWord :
    decodeTableWord 8 0xC3 = some (.jp_nn 0x0000) ∧ decodeTableWord 16 0x37CB = some .swap_A ∧
      decodeTableWord 8 0xCB = some .rlc_B := by
  decide +kernel

/-- After reset the placed word is the next instruction run. -/
theorem test_withFetchWord :
    after (step (State.reset.withFetchWord 24 0x0150C3)) (fun t => decide (t.cpu.pc = 0x0150)) = true := by
  decide +kernel

/-- A word is placed at the entry point where PC points at no storage. -/
theorem test_withFetchWord_off_storage :
    fetchInstr ((at_ { k0 with pc := 0xFF40 }).withFetchWord 16 0x42C6) = .add_A_n 0x42 := by
  decide +kernel

/-! 8-bit loads (95 section 2.1). -/

theorem test_ld_B_C :
    after (ran 0x41 0 0 (at_ { k0 with c := 0x22 })) (fun t => decide (t.cpu.b = 0x22 ∧ t.cpu.pc = 0x0101)) = true := by
  decide +kernel

theorem test_ld_A_atHL :
    after (ran 0x7E 0 0 (poked { k0 with h := 0xC1, l := 0x23 } 0xC123 0x77)) (fun t => decide (t.cpu.a = 0x77)) =
      true := by
  decide +kernel

theorem test_ld_atHL_B_echo :
    after (ran 0x70 0 0 (at_ { k0 with h := 0xE0, l := 0x00, b := 0x99 }))
      (fun t => decide (memRead t 0xC000 = 0x99 ∧ memRead t 0xE000 = 0x99)) = true := by
  decide +kernel

theorem test_ld_atHL_n_rom_dropped :
    after (ran 0x36 0x42 0 (at_ { k0 with h := 0x40, l := 0x00 }))
      (fun t => decide (t = at_ { k0 with h := 0x40, l := 0x00, pc := 0x0102, mcycles := 3 })) = true := by
  decide +kernel

theorem test_ld_A_atBC_gap :
    after (ran 0x0A 0 0 (at_ { k0 with b := 0xFE, c := 0xA0 })) (fun t => decide (t.cpu.a = 0xFF)) = true := by
  decide +kernel

theorem test_ld_A_atDE_disabled_ram :
    after (ran 0x1A 0 0 (at_ { k0 with d := 0xA0, e := 0x00, a := 0x55 })) (fun t => decide (t.cpu.a = 0x00)) = true := by
  decide +kernel

theorem test_ld_atDE_A :
    after (ran 0x12 0 0 (at_ { k0 with d := 0xFE, e := 0x9F, a := 0xA5 })) (fun t => decide (memRead t 0xFE9F = 0xA5)) =
      true := by
  decide +kernel

theorem test_ldh_atC_A_masks_ie :
    after (ran 0xE2 0 0 (at_ { k0 with c := 0xFF, a := 0xFF })) (fun t => decide (memRead t 0xFFFF = 0x1F)) = true := by
  decide +kernel

theorem test_ldh_A_atn_p1 :
    after (ran 0xF0 0x00 0 (at_ k0)) (fun t => decide (t.cpu.a = 0x0F ∧ t.cpu.mcycles = 3)) = true := by
  decide +kernel

theorem test_ld_atHLi_A_wraps :
    after (ran 0x22 0 0 (at_ { k0 with h := 0xFF, l := 0xFF, a := 0x56 }))
      (fun t => decide (memRead t 0xFFFF = 0x16 ∧ t.cpu.hl = 0x0000)) = true := by
  decide +kernel

theorem test_ld_A_atHLd_wraps :
    after (ran 0x3A 0 0 (at_ { k0 with h := 0x00, l := 0x00, a := 0x55 }))
      (fun t => decide (t.cpu.a = 0x00 ∧ t.cpu.hl = 0xFFFF)) = true := by
  decide +kernel

/-! 16-bit loads and the stack (95 section 2.2). -/

theorem test_ld_BC_nn :
    after (ran 0x01 0x34 0x12 (at_ k0)) (fun t => decide (t.cpu.b = 0x12 ∧ t.cpu.c = 0x34 ∧ t.cpu.pc = 0x0103)) =
      true := by
  decide +kernel

theorem test_ld_atnn_SP :
    after (ran 0x08 0x00 0xC1 (at_ { k0 with sp := 0xFFF8 }))
      (fun t => decide (memRead t 0xC100 = 0xF8 ∧ memRead t 0xC101 = 0xFF)) = true := by
  decide +kernel

theorem test_push_AF :
    after (ran 0xF5 0 0 (at_ { k0 with sp := 0xD000, a := 0x12, f := znhc 1 0 1 1 }))
      (fun t => decide (t.cpu.sp = 0xCFFE ∧ memRead t 0xCFFE = 0xB0 ∧ memRead t 0xCFFF = 0x12)) = true := by
  decide +kernel

theorem test_push_BC_wraps :
    after (ran 0xC5 0 0 (at_ { k0 with sp := 0x0001, b := 0x12, c := 0x34 }))
      (fun t => decide (t.cpu.sp = 0xFFFF ∧ memRead t 0xFFFF = 0x14 ∧ memRead t 0x0000 = 0x00)) = true := by
  decide +kernel

theorem test_pop_AF_clears_the_low_nibble :
    after (ran 0xF1 0 0 (poke (poked { k0 with sp := 0xC000 } 0xC000 0xFF) 0xC001 0x12))
      (fun t => decide (t.cpu.a = 0x12 ∧ t.cpu.f.toByte = 0xF0 ∧ t.cpu.sp = 0xC002)) = true := by
  decide +kernel

theorem test_ld_HL_SPe :
    after (ran 0xF8 0x80 0 (at_ { k0 with sp := 0xD0FF, f := znhc 1 1 1 1 }))
      (fun t => decide (t.cpu.hl = 0xD07F ∧ t.cpu.sp = 0xD0FF ∧ t.cpu.f = znhc 0 0 0 1)) = true := by
  decide +kernel

theorem test_add_SP_e :
    after (ran 0xE8 0xFF 0 (at_ { k0 with sp := 0x0001, f := znhc 1 1 1 1 }))
      (fun t => decide (t.cpu.sp = 0x0000 ∧ t.cpu.f = znhc 0 0 1 1 ∧ t.cpu.mcycles = 4)) = true := by
  decide +kernel

/-! 8-bit arithmetic and logic (95 sections S1 and 2.3). -/

theorem test_add : (aluRow 0xC6 0xC6 0x3A (znhc 0 1 0 0) 0x00 (znhc 1 0 1 1) &&
    aluRow 0xC6 0x80 0x80 (znhc 0 0 0 0) 0x00 (znhc 1 0 0 1)) = true := by
  decide +kernel

theorem test_adc : (aluRow 0xCE 0xFF 0xFF (znhc 0 0 0 1) 0xFF (znhc 0 0 1 1) &&
    aluRow 0xCE 0x0F 0xE1 (znhc 0 0 0 1) 0xF1 (znhc 0 0 1 0)) = true := by
  decide +kernel

theorem test_sub : (aluRow 0xD6 0x3E 0x3E (znhc 0 0 0 0) 0x00 (znhc 1 1 0 0) &&
    aluRow 0xD6 0x7F 0x80 (znhc 0 0 0 1) 0x01 (znhc 0 1 1 0)) = true := by
  decide +kernel

theorem test_sbc : (aluRow 0xDE 0xFF 0x00 (znhc 0 0 0 1) 0x00 (znhc 1 1 1 1) &&
    aluRow 0xDE 0x4F 0x3B (znhc 0 0 0 1) 0xEB (znhc 0 1 1 1)) = true := by
  decide +kernel

theorem test_and : aluRow 0xE6 0x3F 0x5A (znhc 0 0 0 1) 0x1A (znhc 0 0 1 0) = true := by decide +kernel

theorem test_xor : aluRow 0xEE 0xFF 0xFF (znhc 0 0 0 1) 0x00 (znhc 1 0 0 0) = true := by decide +kernel

theorem test_or : aluRow 0xF6 0x03 0x5A (znhc 0 0 0 0) 0x5B (znhc 0 0 0 0) = true := by decide +kernel

theorem test_cp : (aluRow 0xFE 0x40 0x3C (znhc 0 0 0 1) 0x3C (znhc 0 1 0 1) &&
    aluRow 0xFE 0x2F 0x3C (znhc 0 0 0 0) 0x3C (znhc 0 1 1 0)) = true := by
  decide +kernel

/-- INC keeps C (R245). -/
theorem test_inc_keeps_carry : aluRow 0x3C 0 0xFF (znhc 0 1 0 1) 0x00 (znhc 1 0 1 1) = true := by decide +kernel

theorem test_dec_atHL :
    after (ran 0x35 0 0 (at_ { k0 with h := 0xC0, l := 0x00 }))
      (fun t => decide (memRead t 0xC000 = 0xFF ∧ t.cpu.f = znhc 0 1 1 0 ∧ t.cpu.mcycles = 3)) = true := by
  decide +kernel

theorem test_daa_after_add :
    (aluRow 0x27 0 0x7D (znhc 0 0 0 0) 0x83 (znhc 0 0 0 0) && aluRow 0x27 0 0x9A (znhc 0 0 0 0) 0x00 (znhc 1 0 0 1) &&
      aluRow 0x27 0 0x12 (znhc 0 0 1 0) 0x18 (znhc 0 0 0 0) && aluRow 0x27 0 0xF0 (znhc 0 0 0 0) 0x50 (znhc 0 0 0 1)) =
      true := by
  decide +kernel

theorem test_daa_after_sub :
    (aluRow 0x27 0 0x4B (znhc 0 1 0 0) 0x4B (znhc 0 1 0 0) && aluRow 0x27 0 0x00 (znhc 0 1 1 1) 0x9A (znhc 0 1 0 1) &&
      aluRow 0x27 0 0xFF (znhc 0 1 1 0) 0xF9 (znhc 0 1 0 0)) = true := by
  decide +kernel

theorem test_cpl_scf_ccf :
    (aluRow 0x2F 0 0x35 (znhc 1 0 0 1) 0xCA (znhc 1 1 1 1) && aluRow 0x37 0 0x00 (znhc 1 1 1 0) 0x00 (znhc 1 0 0 1) &&
      aluRow 0x3F 0 0x00 (znhc 1 1 1 1) 0x00 (znhc 1 0 0 0)) = true := by
  decide +kernel

/-! 16-bit arithmetic (95 section 2.4). -/

theorem test_add_HL_BC :
    after (ran 0x09 0 0 (at_ { k0 with h := 0x0F, l := 0xFF, b := 0x00, c := 0x01, f := znhc 1 1 0 0 }))
      (fun t => decide (t.cpu.hl = 0x1000 ∧ t.cpu.f = znhc 1 0 1 0)) = true := by
  decide +kernel

theorem test_add_HL_HL :
    after (ran 0x29 0 0 (at_ { k0 with h := 0x88, l := 0x00 }))
      (fun t => decide (t.cpu.hl = 0x1000 ∧ t.cpu.f = znhc 0 0 1 1)) = true := by
  decide +kernel

theorem test_dec_DE_wraps :
    after (ran 0x1B 0 0 (at_ { k0 with d := 0x00, e := 0x00, f := znhc 1 1 1 1 }))
      (fun t => decide (t.cpu.de = 0xFFFF ∧ t.cpu.f = znhc 1 1 1 1)) = true := by
  decide +kernel

theorem test_inc_SP :
    after (ran 0x33 0 0 (at_ { k0 with sp := 0xFFFF })) (fun t => decide (t.cpu.sp = 0x0000)) = true := by
  decide +kernel

/-! Rotates, shifts and bit operations (95 section 2.5). -/

theorem test_accumulator_rotates :
    (aluRow 0x07 0 0x80 (znhc 1 1 1 0) 0x01 (znhc 0 0 0 1) && aluRow 0x0F 0 0x01 (znhc 1 1 1 1) 0x80 (znhc 0 0 0 1) &&
      aluRow 0x17 0 0x00 (znhc 1 1 1 1) 0x01 (znhc 0 0 0 0) && aluRow 0x1F 0 0x85 (znhc 1 1 1 0) 0x42 (znhc 0 0 0 1)) =
      true := by
  decide +kernel

/-- One row of the table of the eight prefixed operations on B. -/
def rotRow (b1 v : Byte) (c : Nat) (v' : Byte) (f' : Flags) : Bool :=
  after (ran 0xCB b1 0 (at_ { k0 with b := v, f := znhc 0 1 1 c })) fun t =>
    decide (t.cpu.b = v') && decide (t.cpu.f = f') && decide (t.cpu.mcycles = 2)

theorem test_rotates_with_85 :
    (rotRow 0x00 0x85 0 0x0B (znhc 0 0 0 1) && rotRow 0x08 0x85 0 0xC2 (znhc 0 0 0 1) &&
      rotRow 0x10 0x85 0 0x0A (znhc 0 0 0 1) && rotRow 0x18 0x85 0 0x42 (znhc 0 0 0 1) &&
      rotRow 0x20 0x85 0 0x0A (znhc 0 0 0 1) && rotRow 0x28 0x85 0 0xC2 (znhc 0 0 0 1) &&
      rotRow 0x30 0x85 0 0x58 (znhc 0 0 0 0) && rotRow 0x38 0x85 0 0x42 (znhc 0 0 0 1)) = true := by
  decide +kernel

theorem test_rotates_with_80_and_carry :
    (rotRow 0x00 0x80 1 0x01 (znhc 0 0 0 1) && rotRow 0x08 0x80 1 0x40 (znhc 0 0 0 0) &&
      rotRow 0x10 0x80 1 0x01 (znhc 0 0 0 1) && rotRow 0x18 0x80 1 0xC0 (znhc 0 0 0 0) &&
      rotRow 0x20 0x80 1 0x00 (znhc 1 0 0 1) && rotRow 0x28 0x80 1 0xC0 (znhc 0 0 0 0) &&
      rotRow 0x30 0x80 1 0x08 (znhc 0 0 0 0) && rotRow 0x38 0x80 1 0x40 (znhc 0 0 0 0)) = true := by
  decide +kernel

theorem test_rr_atHL :
    after (ran 0xCB 0x1E 0 (poked { k0 with h := 0xC0, l := 0x00, f := znhc 0 0 0 1 } 0xC000 0x01))
      (fun t => decide (memRead t 0xC000 = 0x80 ∧ t.cpu.f = znhc 0 0 0 1 ∧ t.cpu.mcycles = 4)) = true := by
  decide +kernel

theorem test_bit_0_atHL :
    after (ran 0xCB 0x46 0 (poked { k0 with h := 0xC0, l := 0x00, f := znhc 0 0 0 1 } 0xC000 0xFE))
      (fun t => decide (memRead t 0xC000 = 0xFE ∧ t.cpu.f = znhc 1 0 1 1 ∧ t.cpu.mcycles = 3)) = true := by
  decide +kernel

theorem test_set_7_atHL :
    after (ran 0xCB 0xFE 0 (at_ { k0 with h := 0xC0, l := 0x00 }))
      (fun t => decide (memRead t 0xC000 = 0x80 ∧ t.cpu.f = znhc 0 0 0 0)) = true := by
  decide +kernel

/-- How software acknowledges a request by hand. -/
theorem test_res_0_atHL_acknowledges :
    after (ran 0xCB 0x86 0
      { at_ { k0 with h := 0xFF, l := 0x0F } with mmu := { Mmu.reset with irq := 0x1F } })
      (fun t => decide (memRead t 0xFF0F = 0x1E)) = true := by
  decide +kernel

theorem test_res_0_A_set_3_L :
    (after (ran 0xCB 0x87 0 (at_ { k0 with a := 0xFF })) (fun t => decide (t.cpu.a = 0xFE)) &&
      after (ran 0xCB 0xDD 0 (at_ { k0 with l := 0x00 })) (fun t => decide (t.cpu.l = 0x08))) = true := by
  decide +kernel

/-! Control transfer (95 section 2.6). -/

theorem test_jp_Z :
    (after (ran 0xCA 0x00 0x02 (at_ k0)) (fun t => decide (t.cpu.pc = 0x0103 ∧ t.cpu.mcycles = 3)) &&
      after (ran 0xCA 0x00 0x02 (at_ { k0 with f := znhc 1 0 0 0 }))
        (fun t => decide (t.cpu.pc = 0x0200 ∧ t.cpu.mcycles = 4))) = true := by
  decide +kernel

theorem test_jr_displacements :
    (after (ran 0x18 0xFB 0 (at_ k0)) (fun t => decide (t.cpu.pc = 0x00FD)) &&
      after (ran 0x18 0x7F 0 (at_ k0)) (fun t => decide (t.cpu.pc = 0x0181)) &&
      after (ran 0x18 0x05 0 (at_ { k0 with pc := 0xFFFD })) (fun t => decide (t.cpu.pc = 0x0004))) = true := by
  decide +kernel

theorem test_call_NZ :
    (after (ran 0xC4 0x34 0x12 (at_ k0)) (fun t =>
        decide (t.cpu.pc = 0x1234 ∧ t.cpu.sp = 0xFFFC ∧ memRead t 0xFFFC = 0x03 ∧ memRead t 0xFFFD = 0x01)) &&
      after (ran 0xC4 0x34 0x12 (at_ { k0 with f := znhc 1 0 0 0 }))
        (fun t => decide (t.cpu.pc = 0x0103 ∧ t.cpu.sp = 0xFFFE ∧ t.cpu.mcycles = 3))) = true := by
  decide +kernel

theorem test_ret_C :
    after (ran 0xD8 0 0 (poke (poked { k0 with sp := 0xC000, f := znhc 0 0 0 1 } 0xC000 0x34) 0xC001 0x12))
      (fun t => decide (t.cpu.pc = 0x1234 ∧ t.cpu.sp = 0xC002 ∧ t.cpu.mcycles = 5)) = true := by
  decide +kernel

theorem test_reti :
    after (ran 0xD9 0 0 (poke (poked { k0 with sp := 0xC000 } 0xC000 0x53) 0xC001 0x01))
      (fun t => decide (t.cpu.pc = 0x0153 ∧ t.cpu.ime = true)) = true := by
  decide +kernel

theorem test_rst_38_from_ram :
    after (ran 0xFF 0 0 (at_ { k0 with pc := 0xC0FF, sp := 0xD000 }))
      (fun t => decide (t.cpu.pc = 0x0038 ∧ memRead t 0xCFFE = 0x00 ∧ memRead t 0xCFFF = 0xC1)) = true := by
  decide +kernel

/-! System instructions, a macro-step each (95 sections S8 and 2.7). -/

/-- The machine with the byte `b` at 0x0150, PC there, IE and IF as given. -/
def system (b : Byte) (ime : Bool) (ie irq : BitVec 5) : State :=
  { poked { k0 with pc := 0x0150, ime := ime } 0x0150 b with mmu := { Mmu.reset with ie := ie, irq := irq } }

theorem test_nop_step :
    after (step (system 0x00 false 0 0))
      (fun t => decide (t.cpu.pc = 0x0151 ∧ t.timer.div16 = 4 ∧ t.ppu.dot = 4 ∧ t.mmu = Mmu.reset)) = true := by
  decide +kernel

theorem test_reserved_is_fatal :
    (faults (step (system 0xD3 false 0 0)) (.reservedOpcode 0xD3) && faults (step (system 0x10 false 0 0)) (.reservedOpcode 0x10) &&
      decide (stateAfter (system 0xFD false 0 0) =
        { system 0xFD false 0 0 with stopped := some (.reservedOpcode 0xFD) })) = true := by
  decide +kernel

theorem test_ei_dispatches_at_once :
    after (step (system 0xFB false 1 1)) (fun t =>
      decide (t.cpu.pc = 0x0040 ∧ t.cpu.ime = false ∧ t.mmu.irq = 0 ∧ t.cpu.sp = 0xFFFC) &&
        decide (memRead t 0xFFFC = 0x51 ∧ memRead t 0xFFFD = 0x01)) = true := by
  decide +kernel

theorem test_di_keeps_the_request :
    after (step (system 0xF3 true 1 1)) (fun t => decide (t.cpu.pc = 0x0151 ∧ t.cpu.ime = false ∧ t.mmu.irq = 1)) =
      true := by
  decide +kernel

theorem test_halt :
    (after (step (system 0x76 false 0 0)) (fun t => decide (t.cpu.halted = true ∧ t.cpu.pc = 0x0151)) &&
      after (step (system 0x76 false 4 4))
        (fun t => decide (t.cpu.halted = false ∧ t.cpu.pc = 0x0151 ∧ t.mmu.irq = 4))) = true := by
  decide +kernel

/-- The fifth macro-step of the HALT table: the reload, the request, the wake and the dispatch in one step. -/
theorem test_halt_woken_by_the_timer :
    after (step
      { at_ { k0 with pc := 0x0201, ime := true, halted := true } with
        mmu := { Mmu.reset with ie := 4 }
        timer := { div16 := 0x0010, tima := 0x00, tma := 0x80, tac := 5, overflowPending := true } })
      (fun t => decide (t.cpu.pc = 0x0050 ∧ t.cpu.halted = false ∧ t.cpu.ime = false ∧ t.cpu.sp = 0xFFFC) &&
        decide (t.mmu.irq = 0 ∧ t.timer.tima = 0x80 ∧ t.timer.div16 = 0x0014) &&
        decide (memRead t 0xFFFC = 0x01 ∧ memRead t 0xFFFD = 0x02)) = true := by
  decide +kernel

/-! Registers, the joypad and DMA (95 section 2.8). -/

theorem test_stat_write_keeps_the_status_bits :
    accepted (memWrite State.reset 0xFF41 0xFF) (fun t => decide (memRead State.reset 0xFF41 = 0x06 ∧ memRead t 0xFF41 = 0x7E)) =
      true := by
  decide +kernel

theorem test_p1_columns :
    let s : State := { State.reset with joypad := { sel := 0b11, keysDir := 0x7, keysAct := 0xE } }
    (accepted (memWrite s 0xFF00 0x10) (fun t => decide (memRead t 0xFF00 = 0x0E)) &&
      accepted (memWrite s 0xFF00 0x20) (fun t => decide (memRead t 0xFF00 = 0x07)) &&
      accepted (memWrite s 0xFF00 0x00) (fun t => decide (memRead t 0xFF00 = 0x0F))) = true := by
  decide +kernel

theorem test_dma_from_registers :
    accepted (memWrite { poked k0 0xFF80 0xAB with mmu := { (poked k0 0xFF80 0xAB).mmu with irq := 0x15 } } 0xFF46 0xFF)
      (fun t => decide (memRead t 0xFE00 = 0x0F ∧ memRead t 0xFE03 = 0xFF ∧ memRead t 0xFE0F = 0x15) &&
        decide (memRead t 0xFE44 = 0x00 ∧ memRead t 0xFE46 = 0xFF ∧ memRead t 0xFE80 = 0xAB)) = true := by
  decide +kernel

/-! The bank controller (95 section 2.9). -/

/-- Cartridge A of the vectors: type 3, eight ROM banks with the bank number at offset 0, four RAM banks. -/
def cartA : Cartridge :=
  { rom := [(0x4000, 1), (0x8000, 2), (0xC000, 3), (0x10000, 4), (0x14000, 5), (0x18000, 6), (0x1C000, 7)]
    cartType := 0x03
    romBanks := 8
    ramBanks := 4 }

/-- Cartridge B: type 1, four ROM banks, no RAM. -/
def cartB : Cartridge := { rom := [], cartType := 0x01, romBanks := 4, ramBanks := 0 }

/-- Cartridge A after reset with a ROM bank, a RAM bank and a mode selected, RAM enabled. -/
def banked (rom : BitVec 7) (ram : BitVec 2) (mode : Bool) : State :=
  { State.configure cartA with mmu := { Mmu.reset with romBank := rom, ramBank := ram, ramEnable := true, bankMode := mode } }

theorem test_rom_bank_select :
    (accepted (memWrite (banked 1 0 false) 0x2000 0x05) (fun t => decide (memRead t 0x4000 = 0x05)) &&
      accepted (memWrite (banked 5 0 false) 0x3FFF 0x00) (fun t => decide (memRead t 0x4000 = 0x01)) &&
      accepted (memWrite (banked 1 0 false) 0x2000 0xE7) (fun t => decide (memRead t 0x4000 = 0x07))) = true := by
  decide +kernel

theorem test_bank_index_out_of_range :
    (rejected (memWrite (banked 7 0 false) 0x2000 0x08) (.bankIndexOutOfRange 8) &&
      rejected (memWrite (banked 7 0 false) 0x4000 0x01) (.bankIndexOutOfRange 39) &&
      rejected (memWrite { State.configure cartB with mmu := { Mmu.reset with bankMode := true } } 0x4000 0x01)
        (.bankIndexOutOfRange 1)) = true := by
  decide +kernel

theorem test_external_ram_banks :
    (accepted (memWrite (banked 7 3 true) 0xA000 0x77) (fun t =>
        decide (memRead t 0xA000 = 0x77 ∧ t.mmu.eram = [(0x6000, 0x77)])) &&
      accepted (memWrite (banked 7 0 true) 0x1FFF 0x1A) (fun t => decide (t.mmu.ramEnable = true)) &&
      accepted (memWrite (banked 7 0 true) 0x0000 0xA0) (fun t => decide (t.mmu.ramEnable = false))) = true := by
  decide +kernel

theorem test_unsupported_controller :
    (State.configure { cartA with cartType := 0x05 }).stopped = some (.unsupportedBankController 0x05) := by
  decide

/-- R104: the sizes of an image come from its header bytes. -/
theorem test_cartridge_of_image :
    Cartridge.ofImage [(0x147, 0x03), (0x148, 0x02), (0x149, 0x03)] =
      some { rom := [(0x147, 0x03), (0x148, 0x02), (0x149, 0x03)], cartType := 0x03, romBanks := 8, ramBanks := 4 } := by
  decide

/-! The interrupt controller (95 section 2.10). -/

/-- The machine about to run a NOP in working RAM. -/
def pending (ime : Bool) (ie irq : BitVec 5) : State :=
  { at_ { k0 with pc := 0xC000, sp := 0xD000, ime := ime } with mmu := { Mmu.reset with ie := ie, irq := irq } }

theorem test_lowest_source_first :
    (after (step (pending true 0x1F 0x16)) (fun t =>
        decide (t.cpu.pc = 0x0048 ∧ t.cpu.sp = 0xCFFE ∧ t.mmu.irq = 0x14 ∧ t.cpu.ime = false) &&
          decide (memRead t 0xCFFE = 0x01 ∧ memRead t 0xCFFF = 0xC0)) &&
      after (step (pending true 0x10 0x10)) (fun t => decide (t.cpu.pc = 0x0060 ∧ t.mmu.irq = 0))) = true := by
  decide +kernel

theorem test_not_enabled_or_not_ime :
    (after (step (pending true 0x10 0x0F)) (fun t => decide (t.cpu.pc = 0xC001 ∧ t.mmu.irq = 0x0F ∧ t.cpu.ime = true)) &&
      after (step (pending false 0x1F 0x1F)) (fun t => decide (t.cpu.pc = 0xC001 ∧ t.mmu.irq = 0x1F))) = true := by
  decide +kernel

/-- Cartridge B with SP where the dispatch's low byte selects ROM bank 5. -/
def fatalDispatch : State :=
  { State.configure cartB with
    cpu := { k0 with pc := 0xC004, sp := 0x2002, ime := true }
    mmu := { Mmu.reset with ie := 1, irq := 1 } }

theorem test_fatal_dispatch :
    (faults (step fatalDispatch) (.bankIndexOutOfRange 5) &&
      decide (stateAfter fatalDispatch = { fatalDispatch with stopped := some (.bankIndexOutOfRange 5) })) = true := by
  decide +kernel

/-! The timer (95 section 2.11). -/

theorem test_timer_delayed_reload :
    let s : State :=
      { State.reset with timer := { div16 := 0, tima := 0xFF, tma := 0x42, tac := 5, overflowPending := false } }
    decide ((timerAdvance s 16).timer.tima = 0x00 ∧ (timerAdvance s 16).mmu.irq = 0 ∧
      (timerAdvance (timerAdvance s 16) 4).timer.tima = 0x42 ∧ (timerAdvance (timerAdvance s 16) 4).mmu.irq = 4) = true := by
  decide +kernel

theorem test_timer_two_increments_and_wrap :
    decide (Timer.advance { div16 := 8, tima := 0xFF, tma := 0x10, tac := 5, overflowPending := false } 24 =
        { div16 := 0x20, tima := 0x01, tma := 0x10, tac := 5, overflowPending := true } ∧
      Timer.advance { div16 := 0xFFFC, tima := 0, tma := 0, tac := 5, overflowPending := false } 8 =
        { div16 := 4, tima := 1, tma := 0, tac := 5, overflowPending := false }) = true := by
  decide +kernel

/-! The picture processing unit (95 sections S6, 2.12, 2.13). -/

/-- The unit after reset at a phase, dot and line, its LCD-status enables as given. -/
def scanning (ph : Phase) (dot : Nat) (line : Byte) (en : BitVec 4) : Ppu :=
  { Ppu.reset with phase := ph, dot := dot, line := line, statEn := en, lyc := 2 }

theorem test_line_budget :
    let p := ((scanning .hblank 200 143 0b0010).advance 4)
    decide (p.1.phase = .vblank ∧ p.1.dot = 0 ∧ p.1.line = 144 ∧ p.2.enteredVblank = true ∧ p.2.lcdStatus = true) = true := by
  decide +kernel

theorem test_lyc_request :
    decide (((scanning .hblank 200 1 0b1000).advance 4).2.lcdStatus = true ∧
      ((scanning .hblank 200 0 0b1000).advance 4).2.lcdStatus = false ∧
      ((scanning .vramScan 170 0 0b0001).advance 4).2.lcdStatus = true) = true := by
  decide +kernel

/-- Tile 1 with row 0 = (3C, 7E), mapped at 9800, under the identity palette. -/
def tiled : Ppu := { Ppu.reset with vram := [(0x10, 0x3C), (0x11, 0x7E), (0x1800, 0x01)], bgp := 0xE4 }

/-- Pixels 0 to 11 of line 0. -/
def row0 (p : Ppu) : List Nat := (List.range 12).map fun x => (pixelShade p 0 x).toNat

theorem test_background_row :
    row0 tiled = [0, 2, 3, 3, 3, 3, 2, 0, 0, 0, 0, 0] ∧ row0 { tiled with scx := 0x03 } = [3, 3, 3, 2, 0, 0, 0, 0, 0, 0, 0, 0] ∧
      row0 { tiled with scx := 0xFD } = [0, 0, 0, 0, 2, 3, 3, 3, 3, 2, 0, 0] ∧
      row0 { tiled with bgp := 0x1B } = [3, 1, 0, 0, 0, 0, 1, 3, 3, 3, 3, 3] := by
  decide +kernel

theorem test_signed_tile_numbers :
    row0 { tiled with lcdc := 0x81, vram := [(0x800, 0xFF), (0x1000, 0xFF), (0x1001, 0xFF), (0x1800, 0x80)] } =
      [1, 1, 1, 1, 1, 1, 1, 1, 3, 3, 3, 3] := by
  decide +kernel

/-- One sprite over the tiled background. -/
def sprited (attr : Byte) : Ppu :=
  { tiled with lcdc := 0x93, obp0 := 0xE4, oam := [(0, 0x10), (1, 0x0A), (2, 0x01), (3, attr)] }

theorem test_sprite_over_background :
    row0 { sprited 0 with oam := [(0, 0x10), (1, 0x0A), (2, 0x01)] } = [0, 2, 3, 2, 3, 3, 3, 3, 2, 0, 0, 0] ∧
      row0 (sprited 0x80) = [0, 2, 3, 3, 3, 3, 2, 3, 2, 0, 0, 0] := by
  decide +kernel

theorem test_tall_sprite_flipped :
    row0
      { Ppu.reset with
        lcdc := 0x97
        bgp := 0xE4
        obp0 := 0xE4
        vram := [(0x20, 0xFF), (0x3F, 0xFF)]
        oam := [(0, 0x10), (1, 0x08), (2, 0x03), (3, 0x40)] } = [2, 2, 2, 2, 2, 2, 2, 2, 0, 0, 0, 0] := by
  decide +kernel

theorem test_line_is_rendered_at_hblank :
    (({ tiled with phase := .vramScan, dot := 168 } : Ppu).advance 4).1.frame.pixel 0 2 = 3 := by
  decide +kernel

/-! The host drain (R427). -/

theorem test_host_drain_press :
    let s : State := { State.reset with host := { keyStream := [[⟨.down, true⟩, ⟨.a, false⟩]], presented := none } }
    decide ((hostDrain s).joypad.keysDir = 0x7 ∧ (hostDrain s).joypad.keysAct = 0xF ∧ (hostDrain s).mmu.irq = 0x10 ∧
      (hostDrain s).host.keyStream = []) = true := by
  decide +kernel

/-! Witnesses: for every statement of Certificates/Slice0/Obligations.lean with hypotheses, a state and operands that
meet them all, at the ends of each range. -/

theorem exists_next {r : Result} {p : State → Bool} (h : after r p = true) : ∃ t, r = .next t ∧ p t = true := by
  cases r with
  | next t => exact ⟨t, rfl, h⟩
  | fault f => cases h
  | refused q => cases h

theorem exists_ok {r : Except Fault State} {p : State → Bool} (h : accepted r p = true) : ∃ t, r = .ok t := by
  cases r with
  | ok t => exact ⟨t, rfl⟩
  | error f => cases h

theorem witness_DecodeInvertsEncode :
    Instr.wellFormed (.ld_HL_nn 0xC000) = true ∧ Instr.wellFormed .set_7_A = true := by
  decide

theorem witness_EncodeInvertsDecode :
    (0xC3 : Byte) ≠ 0x10 ∧ ([] : List Byte).length + 1 < opLength 0xC3 ∧ ([0x50] : List Byte).length + 1 < opLength 0xC3 ∧
      opLength 0xC3 ≤ ([0x50, 0x01] : List Byte).length + 1 ∧ opLength 0x00 ≤ ([] : List Byte).length + 1 := by
  decide

/-- The three clauses: a NOP that goes on, a dispatch that is fatal, a reserved opcode. -/
theorem witness_StepRunsTheDecodedInstruction :
    (∀ s ∈ [system 0x00 false 0 0, fatalDispatch, system 0xD3 false 0 0],
      s.stopped = none ∧ s.cpu.halted = false) ∧
    reads [memRead (system 0x00 false 0 0) 0x0150] .nop = true ∧ reads [memRead fatalDispatch 0xC004] .nop = true ∧
    after (exec .nop (system 0x00 false 0 0))
      (fun t => accepted (interruptEvaluation (timerAdvance (ppuAdvance t (4 * t.cpu.mcycles)) (4 * t.cpu.mcycles)))
        fun _ => true) = true ∧
    after (exec .nop fatalDispatch)
      (fun t => rejected (interruptEvaluation (timerAdvance (ppuAdvance t (4 * t.cpu.mcycles)) (4 * t.cpu.mcycles)))
        (.bankIndexOutOfRange 5)) = true ∧
    faults (exec .reserved_D3 (system 0xD3 false 0 0)) (.reservedOpcode 0xD3) = true := by
  decide +kernel

theorem witness_ResetState :
    ∀ c ∈ [Cartridge.blank, cartB, { cartA with cartType := 0x02 }, cartA],
      c.cartType = 0x00 ∨ c.cartType = 0x01 ∨ c.cartType = 0x02 ∨ c.cartType = 0x03 := by
  decide

theorem witness_StoppedMachine :
    (system 0xD3 false 0 0).stopped = none ∧ faults (step (system 0xD3 false 0 0)) (.reservedOpcode 0xD3) = true ∧
      (stateAfter (system 0xD3 false 0 0)).stopped = some (.reservedOpcode 0xD3) ∧
      ∀ c : Cartridge, c = { cartA with cartType := 0x04 } →
        c.cartType ≠ 0x00 ∧ c.cartType ≠ 0x01 ∧ c.cartType ≠ 0x02 ∧ c.cartType ≠ 0x03 := by
  refine ⟨by decide, by decide +kernel, by decide +kernel, ?_⟩
  intro c h
  subst h
  decide

theorem witness_InvariantAtReset : Cartridge.blank.romBanks ≥ 2 ∧ cartA.romBanks ≥ 2 := by decide

/-- A state far from reset: bytes in every memory, the last banks, a rendered line, vertical blank. -/
def busy : State :=
  { State.configure cartA with
    cpu := { k0 with pc := 0xC000, sp := 0xD000, mcycles := 6 }
    mmu :=
      { Mmu.reset with
        romBank := 7
        ramBank := 3
        ramEnable := true
        bankMode := true
        eram := [(0x0000, 0x55), (0x7FFF, 0x77)]
        wram := [(0x1000, 0x01), (0x1FFF, 0x02)]
        hram := [(0x7E, 0x03)]
        audio := [(0x2F, 0x04)] }
    ppu :=
      { Ppu.reset with
        phase := .vblank
        dot := 455
        line := 153
        vram := [(0x1FFF, 0x05)]
        oam := [(0x9F, 0x06)]
        frame := [(0, List.replicate 160 1), (143, List.replicate 160 2)] } }

theorem busy_canonical : Canonical busy := by
  constructor <;> decide +kernel

theorem witness_StepKeepsInvariant : Inv busy ∧ ∃ t, step busy = .next t := by
  refine ⟨⟨busy_canonical, ?_, ?_, ?_, ?_, by decide⟩, ?_⟩
  · constructor <;> decide +kernel
  · constructor <;> decide +kernel
  · constructor <;> decide +kernel
  · constructor <;> decide +kernel
  · have h : after (step busy) (fun _ => true) = true := by decide +kernel
    obtain ⟨t, ht, -⟩ := exists_next h
    exact ⟨t, ht⟩

/-- Where the bank controller accepts and where it rejects: each window at both its ends, both modes. -/
theorem witness_rejectedBank :
    rejectedBank (banked 7 0 false) 0x1FFF 0x08 = none ∧ rejectedBank (banked 7 0 false) 0x2000 0x07 = none ∧
    rejectedBank (banked 7 0 false) 0x2000 0x08 = some 8 ∧ rejectedBank (banked 7 0 false) 0x3FFF 0x1F = some 31 ∧
    rejectedBank (banked 7 0 false) 0x4000 0x01 = some 39 ∧ rejectedBank (banked 7 0 false) 0x5FFF 0x03 = some 103 ∧
    rejectedBank (banked 7 3 true) 0x4000 0x03 = none ∧ rejectedBank (banked 7 0 false) 0x6000 0x01 = none ∧
    rejectedBank (banked 7 0 false) 0x8000 0xFF = none ∧ rejectedBank State.reset 0x2000 0x08 = none := by
  decide +kernel

/-- A byte store that is accepted and reads back, and one that is rejected. -/
theorem witness_StoreByteForms :
    Canonical busy ∧ keepsByte busy 0xC000 = true ∧ keepsByte busy 0xBFFF = true ∧ rejectedBank busy 0xC000 0x08 = none ∧
      (banked 7 0 false |>.withCpu { k0 with h := 0x20, l := 0x00, a := 0x08 }).cpu.hl = 0x2000 ∧
      rejectedBank (banked 7 0 false) 0x2000 0x08 = some 8 := by
  refine ⟨busy_canonical, ?_⟩
  decide +kernel

/-- INC (HL) on the ROM byte 07 at 0x2000 selects ROM bank 8, DEC (HL) on the ROM byte 21 selects ROM bank 32. -/
theorem witness_IncrementDecrementMemory :
    (let s := poke ((banked 7 0 false).withCpu { k0 with h := 0x20, l := 0x00 }) 0x2000 0x07;
      rejectedBank s s.cpu.hl (BitVec.ofNat 8 ((memRead s s.cpu.hl).toNat + 1)) = some 8) ∧
    (let s := poke ((banked 7 0 false).withCpu { k0 with h := 0x20, l := 0x00 }) 0x2000 0x0A;
      rejectedBank s s.cpu.hl (BitVec.ofNat 8 ((memRead s s.cpu.hl).toNat + 255)) = some 9) ∧
    rejectedBank State.reset State.reset.cpu.hl 0x00 = none := by
  decide +kernel

theorem witness_RotateMemory :
    (let s := poke ((banked 7 0 false).withCpu { k0 with h := 0x3F, l := 0xFF }) 0x3FFF 0x04;
      rejectedBank s s.cpu.hl (rotatedByte .sla (memRead s s.cpu.hl) false) = some 8 ∧
        rejectedBank s s.cpu.hl (rotatedByte .srl (memRead s s.cpu.hl) false) = none) := by
  decide +kernel

theorem witness_ResetSetMemory :
    (let s := poke ((banked 7 0 false).withCpu { k0 with h := 0x20, l := 0x00 }) 0x2000 0x18;
      rejectedBank s s.cpu.hl (withoutBit (memRead s s.cpu.hl) 4) = some 8 ∧
        rejectedBank s s.cpu.hl (withBit (memRead s s.cpu.hl) 0) = some 25 ∧
        rejectedBank (banked 7 0 false) 0x2000 (withoutBit 0x0F 3) = none) := by
  decide +kernel

/-- A word store accepted, one rejected by its low byte, one by its high byte, and one that wraps round the top of the
address space into the bank commands. -/
theorem witness_StoreStackPointer :
    rejectedBank16 (banked 7 0 false) 0xC100 0xFFF8 = none ∧ rejectedBank16 (banked 7 0 false) 0x2000 0x0708 = some 8 ∧
      rejectedBank16 (banked 7 0 false) 0x2000 0x0905 = some 9 ∧ rejectedBank16 (banked 7 0 false) 0x1FFF 0x1F0A = some 31 ∧
      rejectedBank16 (banked 7 0 false) 0xFFFF 0x1234 = none ∧ Canonical busy ∧ keepsByte busy 0xDFFE = true ∧
      keepsByte busy 0xDFFF = true ∧ mayChange 0xDFFF 0xDFFE = false := by
  refine ⟨by decide +kernel, by decide +kernel, by decide +kernel, by decide +kernel, by decide +kernel,
    busy_canonical, by decide +kernel, by decide +kernel, by decide +kernel⟩

theorem witness_PushStoresThePair :
    rejectedBank16 busy (busy.cpu.sp - 2) (busy.cpu.stackPair .bc) = none ∧
      (let s := (banked 7 0 false).withCpu { k0 with sp := 0x2002, b := 0x05, c := 0x08 };
        rejectedBank16 s (s.cpu.sp - 2) (s.cpu.stackPair .bc) = some 8) := by
  decide +kernel

theorem witness_PushThenPop :
    Canonical busy ∧ keepsByte busy (busy.cpu.sp - 2) = true ∧ keepsByte busy (busy.cpu.sp - 2 + 1) = true ∧
      mayChange (busy.cpu.sp - 2 + 1) (busy.cpu.sp - 2) = false := by
  refine ⟨busy_canonical, ?_⟩
  decide +kernel

theorem witness_CallThenReturn :
    Canonical (pending false 0 0) ∧ keepsByte (pending false 0 0) 0xCFFE = true ∧
      keepsByte (pending false 0 0) 0xCFFF = true ∧ mayChange 0xCFFF 0xCFFE = false := by
  refine ⟨⟨rfl, rfl, rfl, rfl, rfl, rfl⟩, ?_⟩
  decide +kernel

theorem witness_DecimalArithmetic :
    (99 < 100 ∧ 0 < 100) ∧ (at_ { k0 with a := 0x99, b := 0x00 }).cpu.a = bcd 99 ∧
      (at_ { k0 with a := 0x99, b := 0x00 }).cpu.b = bcd 0 ∧ bcd 28 = 0x28 := by
  decide

/-- Each condition holds in one state and fails in another; the statements on jumps, calls and returns share it. -/
theorem witness_conditions :
    ∀ cc : Cond, (conditionHolds cc (znhc 1 0 0 1) ∧ ¬ conditionHolds cc (znhc 0 0 0 0)) ∨
      (conditionHolds cc (znhc 0 0 0 0) ∧ ¬ conditionHolds cc (znhc 1 0 0 1)) := by
  intro cc
  cases cc <;> simp [conditionHolds, znhc]

/-- A call whose push is accepted, and one whose return address 0x0108 selects ROM bank 8. -/
theorem witness_Calls :
    rejectedBank16 busy (busy.cpu.sp - 2) (busy.cpu.pc + 3) = none ∧
      (let s := (banked 7 0 false).withCpu { k0 with sp := 0x2002, pc := 0x0105 };
        rejectedBank16 s (s.cpu.sp - 2) (s.cpu.pc + 3) = some 8) ∧
      (let s := (banked 7 0 false).withCpu { k0 with sp := 0x2002, pc := 0x0107 };
        rejectedBank16 s (s.cpu.sp - 2) (s.cpu.pc + 1) = some 8) := by
  decide +kernel

theorem witness_ReservedAndStopAreFatal :
    (system 0xD3 false 0 0).stopped = none ∧ (system 0xD3 false 0 0).cpu.halted = false ∧
      memRead (system 0xD3 false 0 0) (system 0xD3 false 0 0).cpu.pc = 0xD3 ∧
      memRead (system 0x10 false 0 0) (system 0x10 false 0 0).cpu.pc = 0x10 ∧
      (0x00 : Byte) ∉ ([0xD3, 0xDB, 0xDD, 0xE3, 0xE4, 0xEB, 0xEC, 0xED, 0xF4, 0xFC, 0xFD, 0x10] : List Byte) := by
  decide +kernel

theorem witness_PrefixRunsTheExtendedInstruction :
    (at_ { k0 with h := 0x1F, l := 0xFF }).cpu.hl.toNat < 0x2000 ∧
      0x5FFF < (at_ { k0 with h := 0x60, l := 0x00 }).cpu.hl.toNat ∧ State.reset.cart.banked = false := by
  decide

/-- Each clause at both ends of its range. -/
theorem witness_BankCommands :
    ((0x7FFF : Word).toNat ≤ 0x7FFF ∧ State.reset.cart.cartType = 0x00) ∧
    ((banked 7 0 false).cart.banked = true ∧ (0x1FFF : Word).toNat ≤ 0x1FFF) ∧
    (0x2000 ≤ (0x2000 : Word).toNat ∧ (0x3FFF : Word).toNat ≤ 0x3FFF ∧
      lowCandidate (banked 7 0 false) 0x00 < (banked 7 0 false).cart.romBanks ∧
      lowCandidate (banked 7 0 false) 0x07 < (banked 7 0 false).cart.romBanks) ∧
    (0x4000 ≤ (0x4000 : Word).toNat ∧ (0x5FFF : Word).toNat ≤ 0x5FFF ∧ (banked 7 0 false).mmu.bankMode = false ∧
      highCandidate (banked 7 0 false) 0x00 < (banked 7 0 false).cart.romBanks) ∧
    ((banked 7 0 true).mmu.bankMode = true ∧ (0x03 : Byte).toNat % 4 < max (banked 7 0 true).cart.ramBanks 1) ∧
    (0x6000 ≤ (0x6000 : Word).toNat ∧ (0x7FFF : Word).toNat ≤ 0x7FFF) ∧
    (0 < 0x2000 ∧ 0x1FFF < 0x2000 ∧ (banked 7 3 true).mmu.ramEnable = true ∧ (banked 7 3 true).cart.ramBanks > 0 ∧
      ¬ (State.reset.mmu.ramEnable = true ∧ State.reset.cart.ramBanks > 0)) := by
  decide +kernel

theorem witness_RomBankWindow :
    (banked 7 0 false).cart.banked = true ∧ (banked 7 0 false).cart.romBanks ≥ 2 ∧
      (banked 7 0 false).mmu.romBank.toNat < 32 ∧ 0x2000 ≤ (0x3FFF : Word).toNat ∧ (0x3FFF : Word).toNat ≤ 0x3FFF ∧
      ((0x00 : Byte).toNat < 32 ∧ (0x00 : Byte).toNat < (banked 7 0 false).cart.romBanks) ∧
      ((0x07 : Byte).toNat < 32 ∧ (0x07 : Byte).toNat < (banked 7 0 false).cart.romBanks) := by
  decide +kernel

/-- A step that goes on under no controller, one under a controller, and the same step as exec of a NOP: the premises of
the statements over every next state. -/
theorem witness_next_states :
    (∃ t, step (system 0x00 false 0 0) = .next t) ∧ (system 0x00 false 0 0).cart.cartType = 0x00 ∧
      (∃ t, step busy = .next t) ∧ (∃ t, exec .nop busy = .next t) ∧
      (∃ t, exec (decodeBytes 0xC4 0x34 0x12) busy = .next t) ∧ isTransferOpcode 0x00 = false ∧ isTransferOpcode 0xCB = false ∧
      Instr.nop ≠ .ei ∧ Instr.nop ≠ .di ∧ Instr.nop ≠ .reti ∧ Instr.nop ≠ .halt := by
  have h1 : after (step (system 0x00 false 0 0)) (fun _ => true) = true := by decide +kernel
  have h2 : after (exec .nop busy) (fun _ => true) = true := by decide +kernel
  have h3 : after (exec (decodeBytes 0xC4 0x34 0x12) busy) (fun _ => true) = true := by decide +kernel
  obtain ⟨t1, e1, -⟩ := exists_next h1
  obtain ⟨t2, e2, -⟩ := exists_next h2
  obtain ⟨t3, e3, -⟩ := exists_next h3
  exact ⟨⟨t1, e1⟩, by decide, witness_StepKeepsInvariant.2, ⟨t2, e2⟩, ⟨t3, e3⟩, by decide⟩

/-- Every address range of the dropped registers at both ends, the four column patterns of P1, and a legal place in each
phase and in vertical blank. -/
theorem witness_RegisterWrites :
    (([0xFEA0, 0xFEFF, 0xFF03, 0xFF08, 0xFF0E, 0xFF4C, 0xFF7F] : List Word).all fun a => decide
      ((0xFEA0 ≤ a.toNat ∧ a.toNat ≤ 0xFEFF) ∨ a = 0xFF03 ∨ (0xFF08 ≤ a.toNat ∧ a.toNat ≤ 0xFF0E) ∨
        (0xFF4C ≤ a.toNat ∧ a.toNat ≤ 0xFF7F))) = true ∧
    (0xDF : Byte) &&& 0x30 = 0x10 ∧ (0x20 : Byte) &&& 0x30 = 0x20 ∧ (0xCF : Byte) &&& 0x30 = 0x00 ∧
      (0xFF : Byte) &&& 0x30 = 0x30 ∧ 0 < 0x30 ∧ 0x2F < 0x30 ∧
    (∀ p ∈ [scanning .oamScan 79 143 0, scanning .vramScan 171 0 0, scanning .hblank 203 143 0, busy.ppu],
      p.line.toNat ≤ 153 ∧ (p.phase = .vblank ↔ 144 ≤ p.line.toNat) ∧ p.dot < phaseBudget p.phase) := by
  decide +kernel

theorem witness_EchoOfWorkingRam :
    0 < 0x2000 ∧ 0x1FFF < 0x2000 ∧ 0x1DFF < 0x1E00 ∧ 0x9F < 0xA0 ∧ 0x7E < 0x7F ∧ 0xDE00 ≤ (0xDE00 : Word).toNat ∧ (0xDFFF : Word).toNat ≤ 0xDFFF ∧
      (0xFDFF : Word) ≠ 0xDE00 ∧ (∃ t, memWrite State.reset 0xDE00 0x22 = .ok t) := by
  have h : accepted (memWrite State.reset 0xDE00 0x22) (fun _ => true) = true := by decide +kernel
  exact ⟨by decide +kernel, by decide +kernel, by decide +kernel, by decide +kernel, by decide +kernel, by decide +kernel,
    by decide +kernel, by decide +kernel, exists_ok h⟩

theorem witness_SpriteTableCopy : Canonical busy ∧ 0 < 160 ∧ 159 < 160 := ⟨busy_canonical, by decide⟩

/-- The four clauses: nothing pending; pending without IME; the lowest source with an accepted push; a fatal push. -/
theorem witness_InterruptDispatch :
    (pending true 0x10 0x0F).mmu.ie &&& (pending true 0x10 0x0F).mmu.irq = 0 ∧
    (pending false 0x1F 0x10).mmu.ie &&& (pending false 0x1F 0x10).mmu.irq ≠ 0 ∧ (pending false 0x1F 0x10).cpu.ime = false ∧
    (((0x1F : BitVec 5) &&& 0x10).getLsbD (4 : Fin 5).val = true ∧
      (∀ j : Fin 5, j < 4 → ((0x1F : BitVec 5) &&& 0x10).getLsbD j.val = false) ∧ (pending true 0x1F 0x10).cpu.ime = true ∧
      rejectedBank16 { pending true 0x1F 0x10 with mmu := { (pending true 0x1F 0x10).mmu with irq := 0 } } 0xCFFE 0xC000 =
        none) ∧
    ((fatalDispatch.mmu.ie &&& fatalDispatch.mmu.irq).getLsbD (0 : Fin 5).val = true ∧ fatalDispatch.cpu.ime = true ∧
      rejectedBank16
        { fatalDispatch.withCpu { fatalDispatch.cpu with pc := 0xC005 } with mmu := { Mmu.reset with ie := 1, irq := 0 } }
        0x2000 0xC005 = some 5) := by
  decide +kernel

/-- Halted and running on, halted and woken without IME, halted and dispatched. -/
theorem witness_HaltedStep :
    let s (ime : Bool) (irq : BitVec 5) : State := (pending ime 0x1F irq).withCpu { (pending ime 0x1F irq).cpu with halted := true }
    (∀ ime irq, (s ime irq).stopped = none ∧ (s ime irq).cpu.halted = true) ∧
    (let q := timerAdvance (ppuAdvance (s true 0) 4) 4;
      q.mmu.ie &&& q.mmu.irq = 0) ∧
    (let q := timerAdvance (ppuAdvance (s false 1) 4) 4;
      q.mmu.ie &&& q.mmu.irq ≠ 0) ∧ (s false 1).cpu.ime = false ∧
    (let q := timerAdvance (ppuAdvance (s true 1) 4) 4;
      q.mmu.ie &&& q.mmu.irq ≠ 0) ∧ (s true 1).cpu.ime = true := by
  refine ⟨fun _ _ => ⟨rfl, rfl⟩, ?_⟩
  decide +kernel

/-- An advance into vertical blank, and one inside it. -/
theorem witness_PpuKeepsTime :
    ScanInv (scanning .hblank 203 143 0) ∧ ScanInv busy.ppu ∧ 24 ≤ 24 ∧
      framePosition (scanning .hblank 203 143 0) < 144 * 456 ∧
      144 * 456 ≤ framePosition (scanning .hblank 203 143 0) + 24 ∧
      ¬ (framePosition busy.ppu < 144 * 456 ∧ 144 * 456 ≤ framePosition busy.ppu + 24) := by
  refine ⟨⟨?_, ?_, ?_⟩, ⟨?_, ?_, ?_⟩, ?_⟩ <;> decide +kernel

/-- Each of the four conditions, and none. -/
theorem witness_LcdStatusRequests :
    let t (p : Ppu) : State := ppuAdvance { State.reset with ppu := p } 24
    (∀ p ∈ [scanning .vramScan 171 0 0b0001, scanning .hblank 203 143 0b0010, scanning .hblank 203 0 0b0100,
        scanning .hblank 203 1 0b1000, scanning .oamScan 79 0 0b1111],
      p.line.toNat ≤ 153 ∧ (p.phase = .vblank ↔ 144 ≤ p.line.toNat) ∧ p.dot < phaseBudget p.phase) ∧
    (t (scanning .vramScan 171 0 0b0001)).ppu.phase = .hblank ∧
    (t (scanning .hblank 203 143 0b0010)).ppu.phase = .vblank ∧
    (t (scanning .hblank 203 0 0b0100)).ppu.phase = .oamScan ∧
    (t (scanning .hblank 203 1 0b1000)).ppu.line = 2 ∧
    (t (scanning .oamScan 79 0 0b1111)).mmu.irq = 0 := by
  decide +kernel

/-- The transition with the dot at both its ends; an advance without it in VRAM scan and in vertical blank; the
background and the sprites on and off. -/
theorem witness_ScanlineRender :
    tiled.frame.wf = true ∧ busy.ppu.frame.wf = true ∧ 159 < 160 ∧ 1 ≠ tiled.line.toNat ∧
    ((scanning .vramScan 171 0 0).phase = .vramScan ∧ 172 ≤ 171 + 1 ∧ 171 + 1 < 172 + 204 ∧ 171 + 204 < 172 + 204) ∧
    (∀ p ∈ [scanning .vramScan 147 0 0, busy.ppu],
      (p.line.toNat ≤ 153 ∧ (p.phase = .vblank ↔ 144 ≤ p.line.toNat) ∧ p.dot < phaseBudget p.phase) ∧
        ¬ (p.phase = .vramScan ∧ 172 ≤ p.dot + 24)) ∧
    tiled.lcdc.getLsbD 1 = false ∧ tiled.lcdc.getLsbD 0 = true ∧ ({ tiled with lcdc := 0x90 } : Ppu).lcdc.getLsbD 0 = false := by
  decide +kernel

/-- No sprite at a pixel; the first sprite alone at a pixel; the last descriptor at a pixel. -/
theorem witness_SpriteOverlay :
    (sprited 0x10).lcdc.getLsbD 1 = true ∧
    (∀ i < 40, spriteShade (sprited 0x10) (spriteAt (sprited 0x10).oam i) 0 100 = none) ∧
    spriteShade (sprited 0x10) (spriteAt (sprited 0x10).oam 0) 0 5 = some 3 ∧
    (∀ j < 40, 0 < j → spriteShade (sprited 0x10) (spriteAt (sprited 0x10).oam j) 0 5 = none) ∧
    (let p : Ppu := { sprited 0x10 with oam := [(156, 0x10), (157, 0x0A), (158, 0x01), (159, 0x80)] };
      spriteShade p (spriteAt p.oam 39) 0 9 = none ∧ spriteShade p (spriteAt p.oam 39) 0 8 = some 2) := by
  decide +kernel

theorem witness_UnusedVideoBits : ∀ b < 5, (0x71 : Byte).getLsbD b = tiled.lcdc.getLsbD b := by decide

/-- An exhausted stream, a list with a press of a key that is up, and a list with a release only. -/
theorem witness_HostDrainAppliesKeys :
    State.reset.host.keyStream = [] ∧
    (let evs : List KeyEvent := [⟨.start, false⟩, ⟨.down, true⟩];
      upAfter .down [⟨.start, false⟩] (State.reset.joypad.keyUp .down) = true ∧
        evs = [⟨.start, false⟩] ++ ⟨.down, true⟩ :: []) ∧
    (∀ e ∈ ([⟨.start, false⟩] : List KeyEvent), e.pressed = false) := by
  decide +kernel

end Sys2Proof.Tests
end

section
/-! PROOF. The statements about the scope of the machine (spec 00_scope.md): what no instruction and no step
changes, how PC moves in line, and the push. -/

namespace Sys2Proof.Proofs.Scope

open Sys2Proof Sys2Proof.Machine Sys2Proof.Safety Sys2Proof.Laws

/-! ### The push -/

theorem exec_push (p : StackPair) (s : State) : exec (Instr.push p) s = pushPair p s := by cases p <;> rfl

/-- F's low nibble is hardwired to zero (R33). -/
theorem toByte_low_nibble (f : Flags) : f.toByte &&& 0x0F = 0 := by
  have h : ∀ z n h c : Bool, (Flags.mk z n h c).toByte &&& 0x0F = 0 := by decide
  exact h f.z f.n f.h f.c

/-- Settles O15: PUSH is the two-byte store below SP followed by the retirement; AF's halves are A and F. -/
theorem pushStoresThePair : Obligations.PushStoresThePair := by
  intro p s
  refine ⟨storesWord_of_push (fun k => k.retire 1 4) (exec_push p s), ?_, ?_⟩
  · rw [Cpu.stackPair, Cpu.af, loByte_joinBytes]
    exact toByte_low_nibble s.cpu.f
  · rw [Cpu.stackPair, Cpu.af, hiByte_joinBytes]

/-! ### What no instruction changes -/

/-- No store, no change. -/
theorem kept_refl (s : State) : KeptByStores [] s s :=
  ⟨fun _ _ => rfl, rfl, rfl, rfl, ⟨rfl, rfl⟩, fun _ => rfl, ⟨rfl, rfl, rfl, rfl⟩, rfl, fun _ => rfl,
    fun _ => ⟨rfl, rfl, rfl, rfl⟩, fun _ _ => rfl⟩

/-- An instruction that completes is framed by the stores it makes, none, one or two adjacent ones. -/
theorem exec_kept {i : Instr} {s t : State} (h : exec i s = .next t) : ∃ l, KeptByStores l s t := by
  obtain ⟨-, u, ht, hu⟩ := exec_shape i s t h
  rw [ht]
  rcases hu with rfl | ⟨a, v, hw⟩ | ⟨a, v, hw⟩
  · exact ⟨_, kept_withCpu u.cpu _ (kept_refl u)⟩
  · exact ⟨_, kept_withCpu s.cpu _ (memWrite_kept hw)⟩
  · exact ⟨_, kept_withCpu s.cpu _ (memWrite16_kept hw).1⟩

/-- Settles O51: each field named is one that the frame of the stores keeps unconditionally. -/
theorem instructionsKeepTheRest : Obligations.InstructionsKeepTheRest := by
  intro i s t h
  obtain ⟨_, hk⟩ := exec_kept h
  obtain ⟨hdir, hact⟩ := hk.keys
  obtain ⟨hphase, hdot, hline, hframe⟩ := hk.scan
  exact ⟨hk.cart, hk.host, hk.stopped, hdir, hact, hphase, hdot, hline, hframe, hk.overflow⟩

/-! ### What no step of the machine changes -/

/-- The cartridge is the same, and where it has no bank controller so is the bank state (R9, R99). -/
structure SameCartridge (s t : State) : Prop where
  cart : t.cart = s.cart
  banks : s.cart.banked = false →
    t.mmu.romBank = s.mmu.romBank ∧ t.mmu.ramBank = s.mmu.ramBank ∧ t.mmu.ramEnable = s.mmu.ramEnable ∧
      t.mmu.bankMode = s.mmu.bankMode

theorem SameCartridge.trans {s t u : State} (h1 : SameCartridge s t) (h2 : SameCartridge t u) : SameCartridge s u where
  cart := h2.cart.trans h1.cart
  banks hb := by
    obtain ⟨r1, a1, e1, m1⟩ := h1.banks hb
    obtain ⟨r2, a2, e2, m2⟩ := h2.banks (h1.cart ▸ hb)
    exact ⟨r2.trans r1, a2.trans a1, e2.trans e1, m2.trans m1⟩

/-- A change of IF, and of whatever is outside the memory-management unit and the cartridge. -/
theorem SameCartridge.of_irq {s t : State} {q : BitVec 5} (hc : t.cart = s.cart)
    (hm : t.mmu = { s.mmu with irq := q }) : SameCartridge s t where
  cart := hc
  banks _ := by rw [hm]; exact ⟨rfl, rfl, rfl, rfl⟩

theorem SameCartridge.withCpu (s : State) (k : Cpu) : SameCartridge s (s.withCpu k) :=
  .of_irq (q := s.mmu.irq) rfl rfl

/-- A write into the ROM range is a bank command (R99). -/
theorem memWrite_rom {a : Word} (h : isBankCommand a = true) (s : State) (v : Byte) :
    memWrite s a v = bankCommand s a v := by
  simp only [isBankCommand, decide_eq_true_eq] at h
  simp only [memWrite]
  rcases busRegion_cases a with h' | h' | h' | h' | h' | h' | h' | h' | h' | h' | h'
  · rw [h'.2]
  · rw [h'.2.2]
  all_goals omega

/-- A bus write keeps the bank state where there is no controller: a bank command then does nothing, and any other
write keeps it whatever the cartridge (R99). -/
theorem memWrite_sameCartridge {s t : State} {a : Word} {v : Byte} (h : memWrite s a v = .ok t) :
    SameCartridge s t where
  cart := (memWrite_kept h).cart
  banks hb := by
    cases ha : isBankCommand a with
    | true =>
      rw [memWrite_rom ha, bankCommand, hb] at h
      injection h with h
      rw [h]
      exact ⟨rfl, rfl, rfl, rfl⟩
    | false => exact (memWrite_kept h).banks fun b hb' => List.mem_singleton.mp hb' ▸ ha

theorem memWrite16_sameCartridge {s u : State} {a v : Word} (h : memWrite16 s a v = .ok u) : SameCartridge s u := by
  obtain ⟨t, h1, h2⟩ := memWrite16_ok h
  exact (memWrite_sameCartridge h1).trans (memWrite_sameCartridge h2)

theorem exec_sameCartridge {i : Instr} {s t : State} (h : exec i s = .next t) : SameCartridge s t := by
  obtain ⟨-, u, ht, hu⟩ := exec_shape i s t h
  rw [ht]
  rcases hu with rfl | ⟨a, v, hw⟩ | ⟨a, v, hw⟩
  · exact .withCpu _ _
  · exact (memWrite_sameCartridge hw).trans (.withCpu _ _)
  · exact (memWrite16_sameCartridge hw).trans (.withCpu _ _)

theorem cpuStep_sameCartridge {s t : State} (h : cpuStep s = .next t) : SameCartridge s t := by
  unfold cpuStep at h
  split at h
  · injection h with h
    exact h ▸ .withCpu s _
  · exact exec_sameCartridge h

theorem advancePeripherals_sameCartridge (s : State) : SameCartridge s (advancePeripherals s) := by
  obtain ⟨-, -, -, hpc, -, -, -, hpm⟩ := ppuAdvance_kept s s.cpu.edges
  obtain ⟨-, -, -, htc, -, -, -, htm⟩ := timerAdvance_kept (ppuAdvance s s.cpu.edges) s.cpu.edges
  exact (SameCartridge.of_irq hpc hpm).trans (.of_irq htc htm)

theorem interruptEvaluation_sameCartridge {s u : State} (h : interruptEvaluation s = .ok u) : SameCartridge s u := by
  rcases interruptEvaluation_ok h with ⟨k, -, rfl⟩ | ⟨i, w, -, -, hw, rfl⟩
  · exact .withCpu s k
  · have hclear : SameCartridge s { s with mmu := { s.mmu with irq := s.mmu.irq &&& ~~~i.mask } } := .of_irq rfl rfl
    exact (hclear.trans (memWrite16_sameCartridge hw)).trans (.withCpu w _)

theorem hostDrain_sameCartridge (s : State) : SameCartridge s (hostDrain s) := by
  obtain ⟨-, -, -, hc, -, -, hm⟩ := hostDrain_kept s
  exact .of_irq hc hm

/-- The parts of a step, in the order of R400. -/
theorem step_sameCartridge {s t : State} (h : step s = .next t) : SameCartridge s t := by
  obtain ⟨-, c, u, hc, hu, rfl⟩ := step_next h
  exact (((cpuStep_sameCartridge hc).trans (advancePeripherals_sameCartridge c)).trans
    (interruptEvaluation_sameCartridge hu)).trans (hostDrain_sameCartridge u)

theorem banked_of_noController {c : Cartridge} (h : c.cartType = 0x00) : c.banked = false := by
  rw [Cartridge.banked, h]
  decide

/-- Settles O44: every part of the step keeps the cartridge, and the bank state without a controller. -/
theorem romNeverChanges : Obligations.RomNeverChanges := by
  intro s t h
  have hsame := step_sameCartridge h
  exact ⟨hsame.cart, fun h0 => hsame.banks (banked_of_noController h0)⟩

/-! ### How PC moves in line -/

/-- The first byte of an instruction's encoding, its opcode or 0xCB (R142, R154). -/
def firstByte (i : Instr) : Byte := (encode i).getD 0 0

/-- The opcodes as the base map lays them out: row = high nibble, column = low nibble (R152). -/
def opcodeRows : List (List Byte) :=
  (List.range 16).map fun row => (List.range 16).map fun col => BitVec.ofNat 8 (16 * row + col)

/-- Each entry of the base map begins with the byte of its place, whatever the operands. -/
theorem baseRows_firstByte (n : Byte) (nn : Word) : (baseRows n nn).map (List.map firstByte) = opcodeRows := rfl

theorem opcodeRows_getD (op : Byte) : (opcodeRows.getD (op.toNat / 16) []).getD (op.toNat % 16) 0 = op := by
  revert op
  decide +kernel

theorem firstByte_decodeBase (op n : Byte) (nn : Word) : firstByte (decodeBase op n nn) = op := by
  calc firstByte (decodeBase op n nn)
      = (((baseRows n nn).map (List.map firstByte)).getD (op.toNat / 16) []).getD (op.toNat % 16) 0 := by
        rw [show ([] : List Byte) = List.map firstByte [] from rfl, List.getD_map,
          show (0 : Byte) = firstByte .nop from rfl, List.getD_map, decodeBase]
    _ = op := by rw [baseRows_firstByte, opcodeRows_getD]

theorem firstByte_decodeExt (op2 : Byte) : firstByte (decodeExt op2) = 0xCB := by
  revert op2
  decide +kernel

/-- The instruction the decoder answers begins with the byte it was decoded from (R140). -/
theorem firstByte_decodeBytes (b0 b1 b2 : Byte) : firstByte (decodeBytes b0 b1 b2) = b0 := by
  unfold decodeBytes
  split
  · rename_i h
    rw [firstByte_decodeExt, h]
  · exact firstByte_decodeBase b0 b1 _

/-- If the result is a next state, PC has moved by `len` (R39). -/
def Advances (len : Word) (s : State) (r : Result) : Prop := ∀ t, r = .next t → t.cpu.pc = s.cpu.pc + len

theorem advances_fault {len : Word} {s : State} {f : Fault} : Advances len s (.fault f) := fun _ h => nomatch h

theorem advances_cpu {len : Word} {s : State} {k : Cpu} (h : k.pc = s.cpu.pc + len) :
    Advances len s (.next (s.withCpu k)) := by
  intro t ht
  injection ht with ht
  rw [← ht]
  exact h

/-- After a bus access that leaves PC alone. -/
theorem advances_afterWrite {len : Word} {s : State} {w : Except Fault State} {g : State → Cpu}
    (hw : ∀ u, w = .ok u → u.cpu.pc = s.cpu.pc) (hg : ∀ u, (g u).pc = u.cpu.pc + len) :
    Advances len s (afterWrite w fun u => u.withCpu (g u)) := by
  intro t ht
  cases w with
  | error f => cases ht
  | ok u =>
    injection ht with ht
    rw [← ht, state_withCpu_cpu, hg, hw u rfl]

theorem memWrite_pc {s : State} {a : Word} {v : Byte} (u : State) (h : memWrite s a v = .ok u) :
    u.cpu.pc = s.cpu.pc := congrArg Cpu.pc (memWrite_cpu h)

theorem memWrite16_pc {s : State} {a v : Word} (u : State) (h : memWrite16 s a v = .ok u) :
    u.cpu.pc = s.cpu.pc := congrArg Cpu.pc (memWrite16_kept h).2

theorem push16_pc {s : State} {v : Word} (u : State) (h : push16 s v = .ok u) : u.cpu.pc = s.cpu.pc :=
  (memWrite16_pc u h).trans rfl

theorem advances_modifyMem (r : Byte) (f : Flags) (len : Word) (m : Nat) (s : State) :
    Advances len s (modifyMem r f len m s) := advances_afterWrite memWrite_pc fun _ => rfl

theorem setPair_pc (k : Cpu) (p : Pair) (v : Word) : (k.setPair p v).pc = k.pc := by cases p <;> rfl

theorem advances_stepPair (p : Pair) (delta : Word) (s : State) : Advances 1 s (stepPair p delta s) :=
  advances_cpu (congrArg (· + 1) (setPair_pc _ p _))

/-- Every extended instruction is two bytes long (R141). -/
theorem advances_execExtended (op2 : Byte) (s : State) : Advances 2 s (execExtended op2 s) := by
  unfold execExtended
  simp only []
  split
  · rename_i r _
    split
    · exact advances_cpu (congrArg (· + 2) (setReg_pc _ r _))
    split
    · exact advances_cpu rfl
    split <;> exact advances_cpu (congrArg (· + 2) (setReg_pc _ r _))
  · split
    · exact advances_modifyMem _ _ 2 4 s
    split
    · exact advances_cpu rfl
    split <;> exact advances_modifyMem _ _ 2 4 s

/-- PC moves by the length table's entry of the first byte, unless that byte is a control transfer's (R39, R141). -/
def AdvancesInLine (i : Instr) (s : State) : Prop :=
  isTransferOpcode (firstByte i) = false → Advances (BitVec.ofNat 16 (opLength (firstByte i))) s (exec i s)

/-- The first byte of an encoding, whatever the operand bytes behind it. -/
theorem advancesInLine_of_encode {i : Instr} {s : State} {op : Byte} {rest : List Byte} (he : encode i = op :: rest)
    (h : Advances (BitVec.ofNat 16 (opLength op)) s (exec i s)) : AdvancesInLine i s := by
  intro _
  rw [firstByte, he]
  exact h

theorem advancesInLine_of_transfer {i : Instr} {s : State} {op : Byte} {rest : List Byte} (he : encode i = op :: rest)
    (h : isTransferOpcode op = true) : AdvancesInLine i s := by
  intro h'
  rw [firstByte, he] at h'
  exact absurd (h.symm.trans h') (by decide)

/-- Every instruction that is no control transfer moves PC by the length of its first byte: the stops answer no state,
the storing ones end in the retirement after a write that leaves PC alone, all others only replace the CPU. -/
theorem exec_advances (i : Instr) (s : State) : AdvancesInLine i s := by
  cases i with
  | jr_e | jr_NZ_e | jr_Z_e | jr_NC_e | jr_C_e | jp_nn | jp_HL | jp_NZ_nn | jp_Z_nn | jp_NC_nn | jp_C_nn
  | call_nn | call_NZ_nn | call_Z_nn | call_NC_nn | call_C_nn | ret | reti | ret_NZ | ret_Z | ret_NC | ret_C
  | rst_00 | rst_08 | rst_10 | rst_18 | rst_20 | rst_28 | rst_30 | rst_38 => exact advancesInLine_of_transfer rfl rfl
  | stop | reserved_D3 | reserved_DB | reserved_DD | reserved_E3 | reserved_E4 | reserved_EB | reserved_EC
  | reserved_ED | reserved_F4 | reserved_FC | reserved_FD => exact advancesInLine_of_encode rfl advances_fault
  | ld_atBC_A | ld_atDE_A | ld_atHLi_A | ld_atHLd_A | ld_atHL_n | ldh_atn_A | ldh_atC_A | ld_atnn_A
  | ld_atHL_B | ld_atHL_C | ld_atHL_D | ld_atHL_E | ld_atHL_H | ld_atHL_L | ld_atHL_A =>
    exact advancesInLine_of_encode rfl (advances_afterWrite memWrite_pc fun _ => rfl)
  | ld_atnn_SP => exact advancesInLine_of_encode rfl (advances_afterWrite memWrite16_pc fun _ => rfl)
  | push_BC | push_DE | push_HL | push_AF =>
    exact advancesInLine_of_encode rfl (advances_afterWrite push16_pc fun _ => rfl)
  | inc_BC | dec_BC | inc_DE | dec_DE | inc_HL | dec_HL | inc_SP | dec_SP =>
    exact advancesInLine_of_encode rfl (advances_stepPair _ _ s)
  | inc_atHL | dec_atHL
  | rlc_atHL | rrc_atHL | rl_atHL | rr_atHL | sla_atHL | sra_atHL | swap_atHL | srl_atHL
  | res_0_atHL | res_1_atHL | res_2_atHL | res_3_atHL | res_4_atHL | res_5_atHL | res_6_atHL | res_7_atHL
  | set_0_atHL | set_1_atHL | set_2_atHL | set_3_atHL | set_4_atHL | set_5_atHL | set_6_atHL | set_7_atHL =>
    exact advancesInLine_of_encode rfl (advances_modifyMem _ _ _ _ s)
  | prefix_CB => exact advancesInLine_of_encode rfl (advances_execExtended _ s)
  | _ => exact advancesInLine_of_encode rfl (advances_cpu rfl)

/-- Settles O53: the decoded instruction begins with the byte that decides both its length and whether it is a
transfer. -/
theorem programCounterAdvances : Obligations.ProgramCounterAdvances := by
  intro b0 b1 b2 s t hb ht
  have h := exec_advances (decodeBytes b0 b1 b2) s
  rw [AdvancesInLine, firstByte_decodeBytes] at h
  exact h hb t ht

end Sys2Proof.Proofs.Scope
end

section
/-! PROOF. The statements about the machine's state (spec 10_state.md): reset, the invariant every step keeps, the
registers of the bus, the sprite-table copy, the scanline render, and the keys. -/

namespace Sys2Proof.Proofs.MachineState

open Sys2Proof Sys2Proof.Machine Sys2Proof.Safety Sys2Proof.Laws

/-! ### The phase machine and the frame buffer in a step -/

/-- A transition moves the phase machine, and out of VRAM scan renders; the memories and the registers stay (R404). -/
theorem transition_kept (p : Ppu) :
    p.transition.1.vram = p.vram ∧ p.transition.1.oam = p.oam ∧ p.transition.1.lcdc = p.lcdc := by
  unfold Ppu.transition
  cases p.phase with
  | oamScan => exact ⟨rfl, rfl, rfl⟩
  | vramScan => exact ⟨rfl, rfl, rfl⟩
  | hblank => simp only [Ppu.leaveHblank]; split <;> exact ⟨rfl, rfl, rfl⟩
  | vblank => simp only [Ppu.endVblankLine]; split <;> exact ⟨rfl, rfl, rfl⟩

/-- The line after a line other than the last one. -/
theorem toNat_line_succ {l : Byte} (h : l.toNat < 255) : (l + 1).toNat = l.toNat + 1 := by
  rw [BitVec.toNat_add_of_lt (show l.toNat + 1 < 2 ^ 8 by omega)]
  rfl

/-- What the line of a phase is, and the phase it leaves for, keep the line in range and vertical blank exactly from
line 144 on (R404, R406). -/
theorem transition_line {p : Ppu} (hl : p.line.toNat ≤ 153) (hv : p.phase = .vblank ↔ 144 ≤ p.line.toNat) :
    p.transition.1.line.toNat ≤ 153 ∧ (p.transition.1.phase = .vblank ↔ 144 ≤ p.transition.1.line.toNat) := by
  unfold Ppu.transition
  cases hp : p.phase with
  | oamScan => simp_all [Ppu.enterVramScan]
  | vramScan => simp_all [Ppu.enterHblank, Ppu.renderLine]
  | hblank =>
    simp only [hp, reduceCtorEq, false_iff] at hv
    simp only [Ppu.leaveHblank]
    split
    · simp
    · rename_i h143
      have hne : p.line.toNat ≠ 143 := fun h => h143 (BitVec.eq_of_toNat_eq h)
      simp only [toNat_line_succ (show p.line.toNat < 255 by omega), reduceCtorEq, false_iff]
      omega
  | vblank =>
    have h144 := hv.mp hp
    simp only [Ppu.endVblankLine]
    split
    · simp
    · rename_i h153
      have hne : p.line.toNat ≠ 153 := fun h => h153 (BitVec.eq_of_toNat_eq h)
      simp only [toNat_line_succ (show p.line.toNat < 255 by omega), hp, true_iff]
      omega

/-- The frame buffer with one visible line of 160 shades written (R67). -/
theorem frameInv_storeSet {f : Frame} {ly : Nat} {row : List Shade} (h : FrameInv f) (hly : ly < Config.screenHeight)
    (hrow : row.length = Config.screenWidth) : FrameInv (storeSet blankLine f ly row) where
  wf := storeWf_storeSet _ _ _ h.wf
  lines := by
    have hold := h.lines
    simp only [offsetsBelow, List.all_eq_true, decide_eq_true_eq] at hold ⊢
    intro e he
    rcases mem_storeSet _ he with he | rfl
    · exact hold e he
    · exact hly
  width := by
    have hold := h.width
    simp only [List.all_eq_true, decide_eq_true_eq] at hold ⊢
    intro e he
    rcases mem_storeSet _ he with he | rfl
    · exact hold e he
    · exact hrow

/-- A render keeps the frame buffer's form on a visible line (R412). -/
theorem renderLine_frameInv {p : Ppu} (h : FrameInv p.frame) (hl : p.line.toNat < Config.screenHeight) :
    FrameInv p.renderLine.frame := frameInv_storeSet h hl (by simp)

theorem transition_frameInv {p : Ppu} (hv : p.phase = .vblank ↔ 144 ≤ p.line.toNat) (h : FrameInv p.frame) :
    FrameInv p.transition.1.frame := by
  by_cases hp : p.phase = .vramScan
  · have hl : p.line.toNat < Config.screenHeight := by simpa [hp, Config.screenHeight] using hv
    simp only [Ppu.transition, hp, Ppu.enterHblank]
    exact renderLine_frameInv h hl
  · rwa [transition_frame hp]

/-- What the invariant says of the picture processing unit. -/
structure PpuInv (p : Ppu) : Prop where
  vram : p.vram.wf = true ∧ offsetsBelow 0x2000 p.vram = true
  oam : p.oam.wf = true ∧ offsetsBelow 0xA0 p.oam = true
  scan : ScanInv p
  frame : FrameInv p.frame

/-- An advance by the cost of a step makes at most one transition (R404, R463). -/
theorem advance_ppuInv {p : Ppu} {e : Nat} (h : PpuInv p) (he : e ≤ 24) : PpuInv (p.advance e).1 := by
  obtain ⟨hvram, hoam, ⟨hl, hv, hd⟩, hf⟩ := h
  by_cases hb : p.dot + e < phaseBudget p.phase
  · rw [advance_within hb]
    exact ⟨hvram, hoam, ⟨hl, hv, hb⟩, hf⟩
  · rw [advance_across hd he (by omega)]
    obtain ⟨hvram', hoam', -⟩ := transition_kept { p with dot := p.dot + e }
    obtain ⟨hl', hv'⟩ := transition_line (p := { p with dot := p.dot + e }) hl hv
    refine ⟨by rwa [hvram'], by rwa [hoam'], ⟨hl', hv', ?_⟩, transition_frameInv hv hf⟩
    have hbudget := budget_ge (Ppu.transition { p with dot := p.dot + e }).1.phase
    rw [transition_dot]
    simp only
    omega

/-! ### The parts of a step -/

theorem ppuInv_of_inv {s : State} (h : Inv s) : PpuInv s.ppu :=
  ⟨⟨h.canonical.vram, h.sized.vram⟩, ⟨h.canonical.oam, h.sized.oam⟩, h.scan, h.frame⟩

/-- The invariant does not look at the CPU but for the cost. -/
theorem withCpu_inv {s : State} (h : Inv s) {k : Cpu} (hk : k.mcycles ≤ 6) : Inv (s.withCpu k) :=
  ⟨⟨h.canonical.vram, h.canonical.oam, h.canonical.wram, h.canonical.hram, h.canonical.audio, h.canonical.eram⟩,
    ⟨h.sized.vram, h.sized.oam, h.sized.wram, h.sized.hram, h.sized.audio, h.sized.eram⟩,
    ⟨h.banks.romLow, h.banks.romHigh, h.banks.ram⟩, h.scan, h.frame, hk⟩

/-- The invariant is kept by a change of IF and of whatever it does not speak of, when the picture processing unit
keeps its own part. -/
theorem inv_of_ppu_irq {s t : State} {q : BitVec 5} (h : Inv s) (hcpu : t.cpu = s.cpu) (hcart : t.cart = s.cart)
    (hmmu : t.mmu = { s.mmu with irq := q }) (hppu : PpuInv t.ppu) : Inv t := by
  obtain ⟨-, -, cw, ch, ca, ce⟩ := h.canonical
  obtain ⟨-, -, sw, sh, sa, se⟩ := h.sized
  obtain ⟨blow, bhigh, bram⟩ := h.banks
  obtain ⟨⟨cv, sv⟩, ⟨co, so⟩, hscan, hframe⟩ := hppu
  obtain ⟨tcpu, tmmu, timer, tppu, joypad, tcart, host, stopped⟩ := t
  subst hcpu hcart hmmu
  exact ⟨⟨cv, co, cw, ch, ca, ce⟩, ⟨sv, so, sw, sh, sa, se⟩, ⟨blow, bhigh, bram⟩, hscan, hframe, h.cost⟩

theorem memWrite_inv {s t : State} {a : Word} {v : Byte} (h : Inv s) (hw : memWrite s a v = .ok t) : Inv t := by
  obtain ⟨hphase, hdot, hline, hframe⟩ := (memWrite_kept hw).scan
  obtain ⟨hl, hv, hd⟩ := h.scan
  refine ⟨memWrite_canonical h.canonical hw, memWrite_sized h.sized h.banks.ram hw, memWrite_banks h.banks hw,
    ⟨?_, ?_, ?_⟩, ?_, ?_⟩
  · rwa [hline]
  · rwa [hphase, hline]
  · rwa [hphase, hdot]
  · rw [hframe]
    exact h.frame
  · rw [memWrite_cpu hw]
    exact h.cost

theorem memWrite16_inv {s u : State} {a v : Word} (h : Inv s) (hw : memWrite16 s a v = .ok u) : Inv u := by
  obtain ⟨t, hlow, hhigh⟩ := memWrite16_ok hw
  exact memWrite_inv (memWrite_inv h hlow) hhigh

/-- An instruction is at most a bus write of one or two bytes and a change of the CPU at a cost of at most 6. -/
theorem exec_inv {i : Instr} {s t : State} (h : Inv s) (he : exec i s = .next t) : Inv t := by
  obtain ⟨⟨-, hcost⟩, u, ht, hu⟩ := exec_shape i s t he
  rw [ht]
  refine withCpu_inv ?_ hcost
  rcases hu with rfl | ⟨a, v, hw⟩ | ⟨a, v, hw⟩
  · exact h
  · exact memWrite_inv h hw
  · exact memWrite16_inv h hw

theorem cpuStep_inv {s t : State} (h : Inv s) (hc : cpuStep s = .next t) : Inv t := by
  unfold cpuStep at hc
  split at hc
  · injection hc with hc
    exact hc ▸ withCpu_inv h (show haltIdleMcycles ≤ 6 by decide)
  · exact exec_inv h hc

theorem advancePeripherals_inv {s : State} (h : Inv s) : Inv (advancePeripherals s) := by
  have hedges : s.cpu.edges ≤ 24 := Nat.mul_le_mul_left 4 h.cost
  obtain ⟨pcpu, -, -, pcart, -, -, pppu, pmmu⟩ := ppuAdvance_kept s s.cpu.edges
  obtain ⟨tcpu, tppu, -, tcart, -, -, -, tmmu⟩ := timerAdvance_kept (ppuAdvance s s.cpu.edges) s.cpu.edges
  have hp := inv_of_ppu_irq h pcpu pcart pmmu (pppu ▸ advance_ppuInv (ppuInv_of_inv h) hedges)
  exact inv_of_ppu_irq hp tcpu tcart tmmu (tppu ▸ ppuInv_of_inv hp)

theorem interruptEvaluation_inv {s u : State} (h : Inv s) (hu : interruptEvaluation s = .ok u) : Inv u := by
  rcases interruptEvaluation_ok hu with ⟨k, hk, rfl⟩ | ⟨i, w, -, -, hw, rfl⟩
  · exact withCpu_inv h (hk ▸ h.cost)
  · have hp := ppuInv_of_inv h
    have hclear : Inv { s with mmu := { s.mmu with irq := s.mmu.irq &&& ~~~i.mask } } :=
      inv_of_ppu_irq h rfl rfl rfl hp
    exact withCpu_inv (memWrite16_inv hclear hw) h.cost

theorem hostDrain_inv {s : State} (h : Inv s) : Inv (hostDrain s) := by
  obtain ⟨hcpu, hppu, -, hcart, -, -, hmmu⟩ := hostDrain_kept s
  exact inv_of_ppu_irq h hcpu hcart hmmu (hppu ▸ ppuInv_of_inv h)

/-- Settles O8: each part of the step, in the order of R400, keeps the invariant. -/
theorem stepKeepsInvariant : Obligations.StepKeepsInvariant := by
  intro s t h hst
  obtain ⟨-, c, u, hc, hu, rfl⟩ := step_next hst
  exact hostDrain_inv (interruptEvaluation_inv (advancePeripherals_inv (cpuStep_inv h hc)) hu)

/-! ### Reset, the latch and the step around an instruction -/

/-- Settles O7: every memory and the frame buffer are empty, the ROM bank is 1, and the phase machine is at the start of
the frame. -/
theorem invariantAtReset : Obligations.InvariantAtReset := by
  have hinv : ∀ cart : Cartridge, cart.romBanks ≥ 2 → Inv (State.configure cart) := fun cart hrom =>
    { canonical := ⟨rfl, rfl, rfl, rfl, rfl, rfl⟩
      sized := ⟨rfl, rfl, rfl, rfl, rfl, rfl⟩
      banks := ⟨show 1 ≤ 1 % 32 by decide, hrom, Nat.lt_of_lt_of_le Nat.one_pos (Nat.le_max_right _ _)⟩
      scan := ⟨show 0 ≤ 153 by decide, show Phase.oamScan = .vblank ↔ 144 ≤ 0 by decide, show 0 < 80 by decide⟩
      frame := ⟨rfl, rfl, rfl⟩
      cost := show 0 ≤ 6 by decide }
  exact ⟨hinv, hinv Cartridge.blank (show 2 ≥ 2 by decide)⟩

/-- A cartridge is supported exactly when its type is one of the four (R104, R342). -/
theorem supported_iff (c : Cartridge) :
    c.supported = true ↔ c.cartType = 0x00 ∨ c.cartType = 0x01 ∨ c.cartType = 0x02 ∨ c.cartType = 0x03 := by
  simp only [Cartridge.supported, Cartridge.banked, Bool.or_eq_true, decide_eq_true_eq, or_assoc]

/-- A pixel of an empty frame buffer is shade 0 (R67). -/
theorem pixel_empty (ly x : Nat) : Frame.pixel [] ly x = 0 := by
  rw [Frame.pixel, Frame.line, storeGet, blankLine, List.getD_eq_getElem?_getD, List.getElem?_replicate]
  split <;> rfl

/-- The owner of a register's address by its offset in the peripheral window (R91). -/
theorem busRegion_register {k : Nat} (h : k < 0x80) : busRegion (BitVec.ofNat 16 (0xFF00 + k)) = .io (ioReg k) := by
  simp (disch := omega) only [busRegion, toNat_address, if_pos, if_neg, Nat.add_sub_cancel_left]

/-- A bus access of the register at offset `k` of the window (R91). -/
theorem access_register {k : Nat} (h : k < 0x80) (s : State) (v : Byte) :
    memRead s (BitVec.ofNat 16 (0xFF00 + k)) = ioRead s (ioReg k) ∧
      memWrite s (BitVec.ofNat 16 (0xFF00 + k)) v = .ok (ioWrite s (ioReg k) v) :=
  access_of_io (busRegion_register h) s v

theorem cpuReset_pairs : Cpu.reset.f.toByte = 0xB0 ∧
    Cpu.reset.bc = 0x0013 ∧ Cpu.reset.de = 0x00D8 ∧ Cpu.reset.hl = 0x014D := by decide

theorem ppuReset_readStat : Ppu.reset.readStat = 0x06 := by decide

/-- Settles O5: the fields are the literals of the reset definitions, and a supported cartridge is not stopped. -/
theorem resetState : Obligations.ResetState := by
  intro cart htype
  have hrun : (State.configure cart).stopped = none := if_pos ((supported_iff cart).mpr htype)
  obtain ⟨hf, hbc, hde, hhl⟩ := cpuReset_pairs
  have hstat : memRead (State.configure cart) 0xFF41 = 0x06 :=
    (access_register (k := 0x41) (by decide) (State.configure cart) 0).1.trans ppuReset_readStat
  exact ⟨⟨rfl, hf, hbc, hde, hhl⟩, ⟨rfl, rfl, rfl, rfl, hrun⟩, ⟨rfl, rfl, rfl, rfl, rfl, rfl⟩,
    ⟨rfl, rfl, rfl, rfl, rfl⟩, ⟨rfl, rfl, rfl, rfl, hstat, rfl, rfl, rfl, rfl, rfl, rfl, rfl, rfl, rfl⟩,
    ⟨rfl, rfl, rfl, rfl, rfl⟩, fun _ => ⟨rfl, rfl, rfl, rfl, rfl, rfl⟩, pixel_empty, rfl, rfl⟩

/-- A latched machine answers the recorded condition (R400). -/
theorem step_of_stopped {s : State} {f : Fault} (h : s.stopped = some f) : step s = .fault f := by
  rw [step, h]

theorem stateAfter_of_fault {s : State} {f : Fault} (h : step s = .fault f) : stateAfter s = s.latchFatal f := by
  rw [stateAfter, h]

/-- Settles O6: a fatal step leaves the state latched, and a latched state stays. -/
theorem stoppedMachine : Obligations.StoppedMachine := by
  refine ⟨fun s f _ hf => ?_, fun s f hs => ?_, fun cart h0 h1 h2 h3 => if_neg ?_⟩
  · rw [stateAfter_of_fault hf]
    exact ⟨rfl, step_of_stopped rfl⟩
  · refine ⟨step_of_stopped hs, ?_⟩
    rw [stateAfter_of_fault (step_of_stopped hs), State.latchFatal, ← hs]
  · rw [supported_iff]
    simp only [h0, h1, h2, h3, or_self, not_false_eq_true]

/-- What the decoder answers on three bytes is what the fetch decodes (R140). -/
theorem eq_decodeBytes_of_decode {b0 b1 b2 : Byte} {i : Instr} {rest : List Byte}
    (h : decode [b0, b1, b2] = .ok (i, rest)) : i = decodeBytes b0 b1 b2 := by
  simp only [decode] at h
  split at h
  · cases h
  · injection h with h
    exact (congrArg Prod.fst h).symm

/-- The peripherals advance by 4 clock edges for each machine cycle of the CPU part (R11, R400). -/
theorem advancePeripherals_eq (t : State) : advancePeripherals t =
    timerAdvance (ppuAdvance t (4 * t.cpu.mcycles)) (4 * t.cpu.mcycles) := rfl

/-- Settles O4: the CPU part of a running machine's step is the instruction fetched; the rest of the step follows its
answer. -/
theorem stepRunsTheDecodedInstruction : Obligations.StepRunsTheDecodedInstruction := by
  intro s i rest hrun hawake hdec
  have hstep : step s = afterCpu (exec i s) := by
    rw [step, hrun, cpuStep, hawake, eq_decodeBytes_of_decode hdec]
    rfl
  refine ⟨fun t u he hu => ?_, fun t f he hf => ?_, fun f he => by rw [hstep, he]; rfl⟩
  · rw [hstep, he, afterCpu, endMacroStep, advancePeripherals_eq, hu]
  · rw [hstep, he, afterCpu, endMacroStep, advancePeripherals_eq, hf]

/-! ### Who writes IME and HALTED -/

/-- If the result is a next state, IME and HALTED are as before (R41, R42). -/
def KeepsControl (s : State) (r : Result) : Prop :=
  ∀ t, r = .next t → t.cpu.ime = s.cpu.ime ∧ t.cpu.halted = s.cpu.halted

theorem keepsControl_fault {s : State} {f : Fault} : KeepsControl s (.fault f) := fun _ h => nomatch h

theorem keepsControl_cpu {s : State} {k : Cpu} (hi : k.ime = s.cpu.ime) (hh : k.halted = s.cpu.halted) :
    KeepsControl s (.next (s.withCpu k)) := by
  intro t ht
  injection ht with ht
  exact ht ▸ ⟨hi, hh⟩

/-- After a bus access that leaves both alone, a change of the CPU that does. -/
theorem keepsControl_afterWrite {s : State} {w : Except Fault State} {g : State → Cpu}
    (hw : ∀ u, w = .ok u → u.cpu.ime = s.cpu.ime ∧ u.cpu.halted = s.cpu.halted)
    (hg : ∀ u, (g u).ime = u.cpu.ime ∧ (g u).halted = u.cpu.halted) :
    KeepsControl s (afterWrite w fun u => u.withCpu (g u)) := by
  intro t ht
  cases w with
  | error f => cases ht
  | ok u =>
    injection ht with ht
    obtain ⟨hi, hh⟩ := hw u rfl
    obtain ⟨gi, gh⟩ := hg u
    exact ht ▸ ⟨gi.trans hi, gh.trans hh⟩

theorem memWrite_control {s : State} {a : Word} {v : Byte} (u : State) (h : memWrite s a v = .ok u) :
    u.cpu.ime = s.cpu.ime ∧ u.cpu.halted = s.cpu.halted := by
  rw [memWrite_cpu h]
  exact ⟨rfl, rfl⟩

theorem memWrite16_control {s : State} {a v : Word} (u : State) (h : memWrite16 s a v = .ok u) :
    u.cpu.ime = s.cpu.ime ∧ u.cpu.halted = s.cpu.halted := by
  rw [(memWrite16_kept h).2]
  exact ⟨rfl, rfl⟩

theorem push16_control {s : State} {v : Word} (u : State) (h : push16 s v = .ok u) :
    u.cpu.ime = s.cpu.ime ∧ u.cpu.halted = s.cpu.halted :=
  memWrite16_control (s := s.withCpu { s.cpu with sp := s.cpu.sp - 2 }) u h

theorem keepsControl_modifyMem (r : Byte) (f : Flags) (len : Word) (m : Nat) (s : State) :
    KeepsControl s (modifyMem r f len m s) := keepsControl_afterWrite memWrite_control fun _ => ⟨rfl, rfl⟩

theorem keepsControl_callTo (w len : Word) (m : Nat) (s : State) : KeepsControl s (callTo w len m s) :=
  keepsControl_afterWrite push16_control fun _ => ⟨rfl, rfl⟩

theorem keepsControl_jumpCond (cc : Cond) (w len : Word) (m mt : Nat) (s : State) :
    KeepsControl s (jumpCond cc w len m mt s) := by
  unfold jumpCond
  split <;> exact keepsControl_cpu rfl rfl

theorem keepsControl_callCond (cc : Cond) (w : Word) (s : State) : KeepsControl s (callCond cc w s) := by
  unfold callCond
  split
  · exact keepsControl_callTo w 3 6 s
  · exact keepsControl_cpu rfl rfl

theorem keepsControl_retCond (cc : Cond) (s : State) : KeepsControl s (retCond cc s) := by
  unfold retCond
  split <;> exact keepsControl_cpu rfl rfl

theorem keepsControl_stepPair (p : Pair) (delta : Word) (s : State) : KeepsControl s (stepPair p delta s) := by
  cases p <;> exact keepsControl_cpu rfl rfl

/-- Replacing a register leaves both alone. -/
theorem keepsControl_setReg {s : State} {k : Cpu} (r : Reg) (v : Byte) (len : Word) (m : Nat)
    (hi : k.ime = s.cpu.ime) (hh : k.halted = s.cpu.halted) :
    KeepsControl s (.next (s.withCpu ((k.setReg r v).retire len m))) :=
  keepsControl_cpu ((setReg_ime k r v).trans hi) ((setReg_halted k r v).trans hh)

theorem keepsControl_execExtended (op2 : Byte) (s : State) : KeepsControl s (execExtended op2 s) := by
  unfold execExtended
  simp only []
  split
  · split
    · exact keepsControl_setReg _ _ 2 2 rfl rfl
    split
    · exact keepsControl_cpu rfl rfl
    split <;> exact keepsControl_setReg _ _ 2 2 rfl rfl
  · split
    · exact keepsControl_modifyMem _ _ 2 4 s
    split
    · exact keepsControl_cpu rfl rfl
    split <;> exact keepsControl_modifyMem _ _ 2 4 s

/-- EI, DI and RETI write IME (R41), HALT writes HALTED (R42). -/
def writesControl (i : Instr) : Prop := i = .ei ∨ i = .di ∨ i = .reti ∨ i = .halt

/-- Every other instruction keeps both: the stops answer no state, the storing ones end after a write that leaves the
CPU alone, the others replace registers, PC and the cost. -/
theorem exec_keepsControl {i : Instr} (hi : ¬ writesControl i) (s : State) : KeepsControl s (exec i s) := by
  cases i with
  | ei => exact absurd (.inl rfl) hi
  | di => exact absurd (.inr (.inl rfl)) hi
  | reti => exact absurd (.inr (.inr (.inl rfl))) hi
  | halt => exact absurd (.inr (.inr (.inr rfl))) hi
  | stop | reserved_D3 | reserved_DB | reserved_DD | reserved_E3 | reserved_E4 | reserved_EB | reserved_EC
  | reserved_ED | reserved_F4 | reserved_FC | reserved_FD => exact keepsControl_fault
  | ld_atBC_A | ld_atDE_A | ld_atHLi_A | ld_atHLd_A | ld_atHL_n | ldh_atn_A | ldh_atC_A | ld_atnn_A
  | ld_atHL_B | ld_atHL_C | ld_atHL_D | ld_atHL_E | ld_atHL_H | ld_atHL_L | ld_atHL_A =>
    exact keepsControl_afterWrite memWrite_control fun _ => ⟨rfl, rfl⟩
  | ld_atnn_SP => exact keepsControl_afterWrite memWrite16_control fun _ => ⟨rfl, rfl⟩
  | push_BC | push_DE | push_HL | push_AF => exact keepsControl_afterWrite push16_control fun _ => ⟨rfl, rfl⟩
  | call_nn | rst_00 | rst_08 | rst_10 | rst_18 | rst_20 | rst_28 | rst_30 | rst_38 =>
    exact keepsControl_callTo _ _ _ s
  | jr_NZ_e | jr_Z_e | jr_NC_e | jr_C_e | jp_NZ_nn | jp_Z_nn | jp_NC_nn | jp_C_nn =>
    exact keepsControl_jumpCond _ _ _ _ _ s
  | call_NZ_nn | call_Z_nn | call_NC_nn | call_C_nn => exact keepsControl_callCond _ _ s
  | ret_NZ | ret_Z | ret_NC | ret_C => exact keepsControl_retCond _ s
  | inc_BC | dec_BC | inc_DE | dec_DE | inc_HL | dec_HL | inc_SP | dec_SP => exact keepsControl_stepPair _ _ s
  | inc_atHL | dec_atHL
  | rlc_atHL | rrc_atHL | rl_atHL | rr_atHL | sla_atHL | sra_atHL | swap_atHL | srl_atHL
  | res_0_atHL | res_1_atHL | res_2_atHL | res_3_atHL | res_4_atHL | res_5_atHL | res_6_atHL | res_7_atHL
  | set_0_atHL | set_1_atHL | set_2_atHL | set_3_atHL | set_4_atHL | set_5_atHL | set_6_atHL | set_7_atHL =>
    exact keepsControl_modifyMem _ _ _ _ s
  | prefix_CB => exact keepsControl_execExtended _ s
  | _ => exact keepsControl_cpu rfl rfl

/-- Settles O50: of the four writers, HALT keeps IME and the others keep HALTED; every other instruction keeps both. -/
theorem masterEnableWriters : Obligations.MasterEnableWriters := by
  intro i s t h
  by_cases hw : writesControl i
  · rcases hw with rfl | rfl | rfl | rfl <;> injection h with h <;> subst h
    · exact ⟨fun hne => absurd rfl hne, fun _ => rfl⟩
    · exact ⟨fun _ hne => absurd rfl hne, fun _ => rfl⟩
    · exact ⟨fun _ _ hne => absurd rfl hne, fun _ => rfl⟩
    · exact ⟨fun _ _ _ => rfl, fun hne => absurd rfl hne⟩
  · obtain ⟨hi, hh⟩ := exec_keepsControl hw s t h
    exact ⟨fun _ _ _ => hi, fun _ => hh⟩

/-! ### The registers of the bus -/

/-- STAT in numbers: the enable bits from bit 3 up, the coincidence in bit 2, the mode below (R54). -/
theorem readStat_eq (p : Ppu) :
    p.readStat =
      BitVec.ofNat 8 (8 * p.statEn.toNat + (if p.line = p.lyc then 4 else 0) + p.phase.mode.toNat) := by
  have hfields : ∀ (en : BitVec 4) (eq : BitVec 1) (mode : BitVec 2),
      (0 : BitVec 1) ++ en ++ eq ++ mode = BitVec.ofNat 8 (8 * en.toNat + 4 * eq.toNat + mode.toNat) := by
    decide +kernel
  rw [Ppu.readStat, hfields]
  split <;> rfl

/-- The two low bits of STAT are the mode (R54). -/
theorem readStat_mod_four (p : Ppu) : p.readStat.toNat % 4 = p.phase.mode.toNat := by
  have hmode := p.phase.mode.isLt
  rw [readStat_eq, BitVec.toNat_ofNat]
  split <;> omega

/-- A line slot of the frame is 456 clock edges: the line is the number of whole slots passed (R406). -/
theorem framePosition_div {p : Ppu} (h : ScanInv p) : framePosition p / 456 = p.line.toNat := by
  have hd := h.dot
  unfold framePosition
  cases hp : p.phase <;> simp only [hp, phaseBudget, oamBudget, vramBudget, hblankBudget, vblankLineBudget] at hd ⊢ <;>
    omega

/-- The mode by the place in the frame (R404 to R406). -/
theorem mode_of_framePosition {p : Ppu} (h : ScanInv p) :
    p.phase.mode.toNat =
      (if 144 * 456 ≤ framePosition p then 1
      else if framePosition p % 456 < 80 then 2
      else if framePosition p % 456 < 80 + 172 then 3
      else 0) := by
  have hd := h.dot
  have hv := h.vblank
  unfold framePosition
  cases hp : p.phase <;>
    simp only [hp, phaseBudget, oamBudget, vramBudget, hblankBudget, vblankLineBudget, reduceCtorEq, true_iff,
      false_iff, Phase.mode, BitVec.reduceToNat] at hd hv ⊢ <;>
    split_ifs <;> omega

/-- The offsets of the peripheral window that own no register (R94). -/
theorem ioReg_unmapped (k : Fin 0x80) (h : k.val = 0x03 ∨ (0x08 ≤ k.val ∧ k.val ≤ 0x0E) ∨ 0x4C ≤ k.val) :
    ioReg k = .unmapped := by
  revert k
  decide

/-- The addresses without storage (R90, R94). -/
theorem access_unmapped {a : Word} (h : (0xFEA0 ≤ a.toNat ∧ a.toNat ≤ 0xFEFF) ∨ a = 0xFF03 ∨
    (0xFF08 ≤ a.toNat ∧ a.toNat ≤ 0xFF0E) ∨ (0xFF4C ≤ a.toNat ∧ a.toNat ≤ 0xFF7F)) (s : State) (v : Byte) :
    memWrite s a v = .ok s ∧ memRead s a = 0xFF := by
  rcases h with ⟨hlo, hhi⟩ | h
  · have hr : busRegion a = .unmapped := by
      simp (disch := omega) only [busRegion, if_pos, if_neg]
    constructor
    · rw [memWrite, hr]
    · rw [memRead, hr]
      rfl
  · have hwin : 0xFF00 ≤ a.toNat ∧ a.toNat ≤ 0xFF7F ∧ (a.toNat - 0xFF00 = 0x03 ∨
        (0x08 ≤ a.toNat - 0xFF00 ∧ a.toNat - 0xFF00 ≤ 0x0E) ∨ 0x4C ≤ a.toNat - 0xFF00) := by
      rcases h with rfl | h | h
      · decide
      all_goals omega
    obtain ⟨hlo, hhi, hk⟩ := hwin
    have hr : busRegion a = .io .unmapped := by
      have hio := ioReg_unmapped ⟨a.toNat - 0xFF00, by omega⟩ hk
      simp only at hio
      rw [← hio]
      simp (disch := omega) only [busRegion, if_pos, if_neg]
    exact (access_of_io hr s v).symm

/-- The select latch P1 keeps (R46). -/
theorem p1Select (v : Byte) :
    v.extractLsb' 4 2 = BitVec.ofNat 2 (v.toNat / 16) ∧ (v &&& 0x30 = 0x10 → v.extractLsb' 4 2 = 0b01) ∧
      (v &&& 0x30 = 0x20 → v.extractLsb' 4 2 = 0b10) ∧
      (v &&& 0x30 = 0x00 ∨ v &&& 0x30 = 0x30 → v.extractLsb' 4 2 ≠ 0b01 ∧ v.extractLsb' 4 2 ≠ 0b10) := by
  revert v
  decide +kernel

/-- What P1 reads under each select latch (R46). -/
theorem readP1_actions {j : Joypad} (h : j.sel = 0b01) : j.readP1 = j.keysAct.setWidth 8 := if_pos h

theorem readP1_directions {j : Joypad} (h : j.sel = 0b10) : j.readP1 = j.keysDir.setWidth 8 := by
  rw [Joypad.readP1, if_neg (by rw [h]; decide), if_pos h]

theorem readP1_neither {j : Joypad} (h : j.sel ≠ 0b01 ∧ j.sel ≠ 0b10) : j.readP1 = 0x0F :=
  (if_neg h.1).trans (if_neg h.2)

/-- A write of P1 selects the key group the next read of P1 answers (R46). -/
theorem access_p1 (s : State) (v : Byte) :
    ∃ t, memWrite s 0xFF00 v = .ok t ∧
      t = { s with joypad := { s.joypad with sel := BitVec.ofNat 2 (v.toNat / 16) } } ∧
      (v &&& 0x30 = 0x10 → memRead t 0xFF00 = s.joypad.keysAct.setWidth 8) ∧
      (v &&& 0x30 = 0x20 → memRead t 0xFF00 = s.joypad.keysDir.setWidth 8) ∧
      (v &&& 0x30 = 0x00 ∨ v &&& 0x30 = 0x30 → memRead t 0xFF00 = 0x0F) := by
  obtain ⟨hsel, hact, hdir, hnone⟩ := p1Select v
  have hread := fun t => (access_register (k := 0x00) (by decide) t v).1
  refine ⟨_, (access_register (k := 0x00) (by decide) s v).2, ?_, fun h => ?_, fun h => ?_, fun h => ?_⟩
  · rw [← hsel]
    rfl
  · exact (hread _).trans (readP1_actions (hact h))
  · exact (hread _).trans (readP1_directions (hdir h))
  · exact (hread _).trans (readP1_neither (hnone h))

/-- DIV is the high byte of the divider (R47). -/
theorem toNat_hiByte (w : Word) : (hiByte w).toNat = w.toNat / 256 := by
  rw [hiByte, BitVec.extractLsb'_toNat, Nat.shiftRight_eq_div_pow]
  exact Nat.mod_eq_of_lt (by omega)

/-- The enable bits STAT keeps (R54). -/
theorem extract_statEn (v : Byte) : v.extractLsb' 3 4 = BitVec.ofNat 4 (v.toNat / 8) := by
  apply BitVec.eq_of_toNat_eq
  rw [BitVec.extractLsb'_toNat, BitVec.toNat_ofNat, Nat.shiftRight_eq_div_pow]

/-- The 48 audio bytes (R96). -/
theorem access_audio {k : Nat} (h : k < 0x30) (s : State) (v : Byte) :
    memRead s (BitVec.ofNat 16 (0xFF10 + k)) = s.mmu.audio.read k ∧
      memWrite s (BitVec.ofNat 16 (0xFF10 + k)) v =
        .ok { s with mmu := { s.mmu with audio := s.mmu.audio.write k v } } := by
  have hreg : ∀ k : Fin 0x30, ioReg (0x10 + k.val) = .audio k.val := by decide
  have hacc := access_register (k := 0x10 + k) (by omega) s v
  rw [hreg ⟨k, h⟩, ← Nat.add_assoc] at hacc
  exact hacc

/-- IE is the last byte of the bus (R51, R93). -/
theorem access_ie (s : State) (v : Byte) :
    memRead s 0xFFFF = s.mmu.ie.setWidth 8 ∧
      memWrite s 0xFFFF v = .ok { s with mmu := { s.mmu with ie := v.setWidth 5 } } := by
  have hr : busRegion 0xFFFF = .ie := rfl
  constructor
  · rw [memRead, hr]
    rfl
  · rw [memWrite, hr]

/-- Settles O45: each address is its register's, and the register's read and write are its equations. -/
theorem registerWrites : Obligations.RegisterWrites := by
  intro s v
  have acc := fun (k : Nat) (h : k < 0x80) => access_register h s v
  obtain ⟨rdiv, wdiv⟩ := acc 0x04 (by decide)
  obtain ⟨rtac, wtac⟩ := acc 0x07 (by decide)
  obtain ⟨rirq, wirq⟩ := acc 0x0F (by decide)
  obtain ⟨rstat, wstat⟩ := acc 0x41 (by decide)
  obtain ⟨rie, wie⟩ := access_ie s v
  refine ⟨acc 0x01 (by decide), acc 0x02 (by decide), ⟨?_, wdiv⟩, acc 0x05 (by decide), acc 0x06 (by decide),
    ⟨?_, ?_⟩, ⟨?_, ?_⟩, ⟨?_, ?_⟩, fun k hk => access_audio hk s v, acc 0x40 (by decide), acc 0x42 (by decide),
    acc 0x43 (by decide), acc 0x44 (by decide), acc 0x45 (by decide), acc 0x47 (by decide), acc 0x48 (by decide),
    acc 0x49 (by decide), acc 0x4A (by decide), acc 0x4B (by decide), ⟨?_, ?_⟩, fun h => ⟨?_, ?_⟩,
    fun a ha => access_unmapped ha s v, access_p1 s v⟩
  · exact (congrArg BitVec.toNat rdiv).trans (toNat_hiByte _)
  · exact (congrArg BitVec.toNat rtac).trans (BitVec.toNat_setWidth_of_le (by decide))
  · rw [BitVec.ofNat_toNat]
    exact wtac
  · exact (congrArg BitVec.toNat rirq).trans (BitVec.toNat_setWidth_of_le (by decide))
  · rw [BitVec.ofNat_toNat]
    exact wirq
  · exact (congrArg BitVec.toNat rie).trans (BitVec.toNat_setWidth_of_le (by decide))
  · rw [BitVec.ofNat_toNat]
    exact wie
  · refine rstat.trans ((readStat_eq s.ppu).trans ?_)
    cases s.ppu.phase <;> rfl
  · rw [← extract_statEn]
    exact wstat
  · rw [framePosition_div h]
    exact congrArg BitVec.toNat (acc 0x44 (by decide)).1
  · rw [← mode_of_framePosition h, ← readStat_mod_four]
    exact congrArg (·.toNat % 4) rstat

/-! ### The sprite-table copy -/

/-- The state with the sprite table replaced. -/
def withOam (s : State) (m : Memory) : State := { s with ppu := { s.ppu with oam := m } }

/-- A read looks at the sprite table only at the offset it addresses. -/
theorem memRead_withOam {s : State} {m : Memory} {a : Word}
    (h : ∀ o, busRegion a = .oam o → m.read o = s.ppu.oam.read o) : memRead (withOam s m) a = memRead s a := by
  simp only [memRead]
  cases hr : busRegion a with
  | oam o => exact h o hr
  | io r => cases r <;> rfl
  | _ => rfl

/-- The source address of byte `i` of the copy from page `v` (R98). -/
theorem toNat_source (v : Byte) {i : Nat} (h : i < 256) :
    (joinBytes v (BitVec.ofNat 8 i)).toNat = 256 * v.toNat + i := by
  rw [joinBytes, BitVec.toNat_append, ← Nat.shiftLeft_add_eq_or_of_lt (BitVec.isLt _), Nat.shiftLeft_eq,
    BitVec.toNat_ofNat]
  omega

/-- Where the source of byte `i` is in the sprite table, it is byte `i` of the sprite table. -/
theorem source_oam {v : Byte} {i o : Nat} (h : i < 256) (hr : busRegion (joinBytes v (BitVec.ofNat 8 i)) = .oam o) :
    o = i := by
  have ha := toNat_source v h
  have hmem := busRegion_cases (joinBytes v (BitVec.ofNat 8 i))
  simp only [hr, reduceCtorEq, and_false, or_false, false_or, Region.oam.injEq] at hmem
  omega

/-- The copy so far: the first `n` bytes are what the bus read before it began, the others are as they were. A byte
not yet copied is the only one of the sprite table that the copy of page 0xFE reads, and it still holds its value. -/
theorem dmaFold_read (s : State) (v : Byte) (hw : s.ppu.oam.wf = true) {n : Nat} (hn : n ≤ 256) :
    ∃ m, (List.range n).foldl (dmaByte v) s = withOam s m ∧ m.wf = true ∧
      (∀ i < n, m.read i = memRead s (joinBytes v (BitVec.ofNat 8 i))) ∧ ∀ i, n ≤ i → m.read i = s.ppu.oam.read i := by
  induction n with
  | zero => exact ⟨s.ppu.oam, rfl, hw, fun i hi => absurd hi (Nat.not_lt_zero i), fun _ _ => rfl⟩
  | succ n ih =>
    obtain ⟨m, hm, hwf, hdone, hrest⟩ := ih (by omega)
    have hread : memRead (withOam s m) (joinBytes v (BitVec.ofNat 8 n)) = memRead s (joinBytes v (BitVec.ofNat 8 n)) :=
      memRead_withOam fun o ho => by rw [source_oam (by omega) ho, hrest n (Nat.le_refl n)]
    refine ⟨m.write n (memRead s (joinBytes v (BitVec.ofNat 8 n))), ?_, Memory.wf_write _ _ hwf, fun i hi => ?_,
      fun i hi => ?_⟩
    · rw [List.range_succ, List.foldl_append, hm, ← hread]
      rfl
    · by_cases hin : i = n
      · rw [hin, Memory.read_write_same _ _ hwf]
      · rw [Memory.read_write_of_ne _ _ _ _ hin, hdone i (by omega)]
    · rw [Memory.read_write_of_ne _ _ _ _ (by omega), hrest i (by omega)]

/-- Settles O47: the write to DMA is the store of the page and the copy of the 160 bytes. -/
theorem spriteTableCopy : Obligations.SpriteTableCopy := by
  intro s v hc
  obtain ⟨m, hm, -, hcopied, -⟩ :=
    dmaFold_read { s with ppu := { s.ppu with dma := v } } v hc.oam (n := 160) (by decide)
  have hwrite : memWrite s 0xFF46 v = .ok (withOam { s with ppu := { s.ppu with dma := v } } m) := by
    rw [← hm]
    exact (access_register (k := 0x46) (by decide) s v).2
  refine ⟨_, hwrite, (access_register (k := 0x46) (by decide) _ v).1, fun i hi => ?_, rfl⟩
  rw [memRead, busRegion_oam hi]
  exact hcopied i hi

/-! ### What a rendered pixel depends on -/

/-- Two units that agree on everything the renderer reads: neither the window registers nor LCDC bits 5 to 7 nor the
phase machine are among it (R412 to R415). -/
structure RenderAlike (q p : Ppu) : Prop where
  lcdc : ∀ b < 5, q.lcdc.getLsbD b = p.lcdc.getLsbD b
  scy : q.scy = p.scy
  scx : q.scx = p.scx
  bgp : q.bgp = p.bgp
  obp0 : q.obp0 = p.obp0
  obp1 : q.obp1 = p.obp1
  vram : q.vram = p.vram
  oam : q.oam = p.oam

section RenderAlike

variable {p q : Ppu} (h : RenderAlike q p)
include h

theorem RenderAlike.bgIndex (ly x : Nat) : bgIndex q ly x = bgIndex p ly x := by
  simp only [Machine.bgIndex, h.lcdc 0 (by decide), h.lcdc 3 (by decide), h.lcdc 4 (by decide), h.scy, h.scx, h.vram]

theorem RenderAlike.bgShade (ly x : Nat) : bgShade q ly x = bgShade p ly x := by
  simp only [Machine.bgShade, h.lcdc 0 (by decide), h.bgp, h.bgIndex]

theorem RenderAlike.spriteIndex (sp : Sprite) (ly x : Nat) : spriteIndex q sp ly x = spriteIndex p sp ly x := by
  have hheight : spriteHeight q = spriteHeight p := by rw [spriteHeight, spriteHeight, h.lcdc 2 (by decide)]
  rw [Machine.spriteIndex, Machine.spriteIndex, hheight, h.vram]

theorem RenderAlike.spriteShade (sp : Sprite) (ly x : Nat) : spriteShade q sp ly x = spriteShade p sp ly x := by
  simp only [Machine.spriteShade, h.spriteIndex, h.bgIndex, h.obp0, h.obp1]

theorem RenderAlike.pixelShade (ly x : Nat) : pixelShade q ly x = pixelShade p ly x := by
  have hover : overlaySprite q ly x = overlaySprite p ly x :=
    funext fun shade => funext fun sp => by rw [overlaySprite, overlaySprite, h.spriteShade]
  simp only [Machine.pixelShade, spriteTable, h.lcdc 1 (by decide), h.oam, h.bgShade, hover]

end RenderAlike

/-- The unit at another place of its phase renders alike. -/
theorem renderAlike_scan (p : Ppu) (dot : Nat) (phase : Phase) : RenderAlike { p with dot := dot, phase := phase } p :=
  ⟨fun _ _ => rfl, rfl, rfl, rfl, rfl, rfl, rfl, rfl⟩

/-! ### The registers without effect -/

/-- The unit with LCDC and the window registers replaced. -/
def withUnused (lcdc wy wx : Byte) (p : Ppu) : Ppu := { p with lcdc := lcdc, wy := wy, wx := wx }

section Unused

variable {lcdc wy wx : Byte} {p : Ppu} (h : ∀ b < 5, lcdc.getLsbD b = p.lcdc.getLsbD b)
include h

theorem renderAlike_withUnused : RenderAlike (withUnused lcdc wy wx p) p := ⟨h, rfl, rfl, rfl, rfl, rfl, rfl, rfl⟩

theorem renderLine_withUnused :
    (withUnused lcdc wy wx p).renderLine = withUnused lcdc wy wx p.renderLine := by
  have hpixels := funext ((renderAlike_withUnused (wy := wy) (wx := wx) h).pixelShade p.line.toNat)
  change { withUnused lcdc wy wx p with
    frame := storeSet blankLine p.frame p.line.toNat
      ((List.range Config.screenWidth).map (pixelShade (withUnused lcdc wy wx p) p.line.toNat)) } = _
  rw [hpixels]
  rfl

/-- No transition looks at them but the render, which does not depend on them (R404, R409, R415). -/
theorem transition_withUnused :
    (withUnused lcdc wy wx p).transition = (withUnused lcdc wy wx p.transition.1, p.transition.2) := by
  have hphase : (withUnused lcdc wy wx p).phase = p.phase := rfl
  have hline : (withUnused lcdc wy wx p).line = p.line := rfl
  rw [Ppu.transition, Ppu.transition, hphase]
  cases p.phase with
  | oamScan => rfl
  | vramScan =>
    exact congrArg (·, _) (renderLine_withUnused (p := { p with dot := p.dot - vramBudget, phase := .hblank }) h)
  | hblank =>
    simp only [Ppu.leaveHblank, hline]
    split <;> rfl
  | vblank =>
    simp only [Ppu.endVblankLine, hline]
    split <;> rfl

end Unused

/-- The loop carries them along and reports the same events. -/
theorem loop_withUnused {lcdc wy wx : Byte} (n : Nat) {p : Ppu} (ev : PpuEvents)
    (h : ∀ b < 5, lcdc.getLsbD b = p.lcdc.getLsbD b) :
    Ppu.loop n (withUnused lcdc wy wx p, ev) =
      (withUnused lcdc wy wx (Ppu.loop n (p, ev)).1, (Ppu.loop n (p, ev)).2) := by
  induction n generalizing p ev with
  | zero => rfl
  | succ n ih =>
    by_cases hb : p.dot ≥ phaseBudget p.phase
    · have hb' : (withUnused lcdc wy wx p).dot ≥ phaseBudget (withUnused lcdc wy wx p).phase := hb
      simp only [Ppu.loop, hb, hb', if_true, transition_withUnused h]
      exact ih _ fun b hlt => (h b hlt).trans (by rw [(transition_kept p).2.2])
    · have hb' : ¬ (withUnused lcdc wy wx p).dot ≥ phaseBudget (withUnused lcdc wy wx p).phase := hb
      simp only [Ppu.loop, hb, hb', if_false]

/-- Settles O59: the renderer does not read them, and the loop of the advance carries them along. -/
theorem unusedVideoBits : Obligations.UnusedVideoBits := by
  intro p lcdc wy wx h
  refine ⟨(renderAlike_withUnused h).pixelShade, fun e => ?_⟩
  have hadvance : (withUnused lcdc wy wx p).advance e = (withUnused lcdc wy wx (p.advance e).1, (p.advance e).2) :=
    loop_withUnused (p := { p with dot := p.dot + e }) (p.dot + e) _ h
  exact (Prod.ext_iff.mp hadvance).symm

/-! ### When a line is rendered -/

theorem loop_of_below {p : Ppu} (h : p.dot < phaseBudget p.phase) (n : Nat) (ev : PpuEvents) :
    Ppu.loop n (p, ev) = (p, ev) := by
  cases n with
  | zero => rfl
  | succ n => rw [Ppu.loop, if_neg (Nat.not_le_of_lt h)]

/-- An advance that reaches the budget of the phase but not the one of the phase behind it is that transition (R404). -/
theorem advance_once {p : Ppu} {e : Nat} (h : phaseBudget p.phase ≤ p.dot + e)
    (hnext : (Ppu.transition { p with dot := p.dot + e }).1.dot <
      phaseBudget (Ppu.transition { p with dot := p.dot + e }).1.phase) :
    p.advance e = Ppu.transition { p with dot := p.dot + e } := by
  have hpos := budget_ge p.phase
  obtain ⟨n, hn⟩ : ∃ n, p.dot + e = n + 1 := ⟨p.dot + e - 1, by omega⟩
  calc p.advance e
      = Ppu.loop n ((Ppu.transition { p with dot := p.dot + e }).1,
          PpuEvents.or ⟨false, false⟩ (Ppu.transition { p with dot := p.dot + e }).2) := by
        rw [Ppu.advance, hn, Ppu.loop, if_pos (by simp only; omega)]
    _ = Ppu.transition { p with dot := p.dot + e } := by
        rw [loop_of_below hnext]
        simp [PpuEvents.or]

/-- What the transition into horizontal blank writes: the 160 pixels of the current line, no other line, and nothing
else but dot and phase (R404, R412). -/
theorem enterHblank_spec {p : Ppu} (hw : p.frame.wf = true) :
    (∀ x < 160, p.enterHblank.1.frame.pixel p.line.toNat x = pixelShade p p.line.toNat x) ∧
      (∀ ly x, ly ≠ p.line.toNat → p.enterHblank.1.frame.pixel ly x = p.frame.pixel ly x) ∧
      p.enterHblank.1 = { p with dot := p.dot - 172, phase := .hblank, frame := p.enterHblank.1.frame } :=
  ⟨fun x hx => (renderLine_pixel (p := { p with dot := p.dot - vramBudget, phase := .hblank }) hw hx).trans
      ((renderAlike_scan p _ _).pixelShade _ x),
    fun _ x h => renderLine_pixel_of_ne { p with dot := p.dot - vramBudget, phase := .hblank } h x, rfl⟩

/-- An advance out of VRAM scan that ends in the horizontal blank behind it is the transition (R404). -/
theorem advance_into_hblank {p : Ppu} {e : Nat} (hp : p.phase = .vramScan) (hlo : 172 ≤ p.dot + e)
    (hhi : p.dot + e < 172 + 204) : p.advance e = Ppu.enterHblank { p with dot := p.dot + e } := by
  have htr : Ppu.transition { p with dot := p.dot + e } = Ppu.enterHblank { p with dot := p.dot + e } := by
    simp only [Ppu.transition, hp]
  rw [← htr]
  apply advance_once
  · rw [hp]
    exact hlo
  · rw [htr]
    change p.dot + e - 172 < 204
    omega

/-- An advance by the cost of a step makes no other render (R404, R463). -/
theorem advance_frame {p : Ppu} {e : Nat} (h : ScanInv p) (he : e ≤ 24)
    (hn : ¬ (p.phase = .vramScan ∧ 172 ≤ p.dot + e)) : (p.advance e).1.frame = p.frame := by
  by_cases hb : p.dot + e < phaseBudget p.phase
  · rw [advance_within hb]
  · rw [advance_across h.dot he (by omega)]
    refine transition_frame (p := { p with dot := p.dot + e }) fun hp => hn ⟨hp, ?_⟩
    rw [show p.phase = .vramScan from hp] at hb
    exact Nat.le_of_not_lt hb

/-! ### The pixel of a tile, of the background and of a sprite in numbers -/

/-- The colour index at column `x` of the tile row whose two bytes are at `row`, as a number (R65). -/
def rowDigits (vram : Memory) (row x : Nat) : Nat :=
  (vram.read row).toNat / 2 ^ (7 - x) % 2 + 2 * ((vram.read (row + 1)).toNat / 2 ^ (7 - x) % 2)

theorem tilePixel_eq_rowDigits (vram : Memory) (t y x : Nat) :
    tilePixel vram t y x = BitVec.ofNat 2 (rowDigits vram (16 * t + 2 * y) x) := tilePixel_eq vram t y x

theorem toNat_rowDigits (vram : Memory) (row x : Nat) :
    (BitVec.ofNat 2 (rowDigits vram row x)).toNat = rowDigits vram row x := by
  rw [BitVec.toNat_ofNat, rowDigits]
  omega

/-- A palette's shade for the colour index of a tile row (R59, R416). -/
theorem paletteShade_rowDigits (b : Byte) (vram : Memory) (row x : Nat) :
    paletteShade b (BitVec.ofNat 2 (rowDigits vram row x)) =
      BitVec.ofNat 2 (b.toNat / 4 ^ rowDigits vram row x % 4) := by
  rw [paletteShade_eq, toNat_rowDigits]

/-- The tile number of the background, unsigned or signed (R413). -/
theorem bgTile_eq (unsigned : Bool) (ti : Byte) :
    (if unsigned then ti.toNat else (256 + ti.toInt).toNat) =
      if unsigned ∨ ti.toNat ≥ 128 then ti.toNat else 256 + ti.toNat := by
  rw [signedTile_eq]
  cases unsigned <;> simp

/-- The background's tile row at column `x` of line `ly`, as its offset in video memory (R413). -/
def bgRow (p : Ppu) (ly x : Nat) : Nat :=
  let yy := (ly + p.scy.toNat) % 256
  let xx := (x + p.scx.toNat) % 256
  let map := if p.lcdc.getLsbD 3 then 0x1C00 else 0x1800
  let ti := p.vram.read (map + 32 * (yy / 8) + xx / 8)
  let tile := if p.lcdc.getLsbD 4 ∨ ti.toNat ≥ 128 then ti.toNat else 256 + ti.toNat
  16 * tile + 2 * (yy % 8)

theorem bgIndex_eq {p : Ppu} (h : p.lcdc.getLsbD 0 = true) (ly x : Nat) :
    bgIndex p ly x = BitVec.ofNat 2 (rowDigits p.vram (bgRow p ly x) ((x + p.scx.toNat) % 256 % 8)) := by
  simp only [bgIndex, if_pos h, bgTile_eq]
  exact tilePixel_eq_rowDigits _ _ _ _

/-- Settles O57: the transition's render, the advances that make it and those that do not, and the background pixel. -/
theorem scanlineRender : Obligations.ScanlineRender := by
  intro p
  refine ⟨fun hw => ⟨enterHblank_spec hw, fun e hp hlo hhi => ?_⟩, fun e h he hn => advance_frame h he hn,
    fun ly x => ⟨fun h => ?_, fun h => ?_, fun h => ?_⟩⟩
  · simp only [advance_into_hblank hp hlo hhi]
    obtain ⟨hline, hother, hrest⟩ := enterHblank_spec (p := { p with dot := p.dot + e }) hw
    exact ⟨fun x hx => (hline x hx).trans ((renderAlike_scan p _ p.phase).pixelShade _ x), hother, hrest⟩
  · rw [pixelShade, h]
    rfl
  · rw [bgShade, bgIndex, h]
    exact ⟨rfl, rfl⟩
  · refine ⟨bgIndex_eq h ly x, ?_⟩
    rw [bgShade, if_pos h, bgIndex_eq h]
    exact paletteShade_rowDigits _ _ _ _

/-! ### The sprites -/

/-- The first `n` descriptors overlaid on a pixel in table order (R414). -/
def overlayFirst (p : Ppu) (ly x n : Nat) : Shade :=
  ((List.range n).map (spriteAt p.oam)).foldl (overlaySprite p ly x) (bgShade p ly x)

theorem pixelShade_eq_overlay {p : Ppu} (h : p.lcdc.getLsbD 1 = true) (ly x : Nat) :
    pixelShade p ly x = overlayFirst p ly x 40 := if_pos h

/-- The last of the first descriptors lies over the others. -/
theorem overlayFirst_succ (p : Ppu) (ly x n : Nat) :
    overlayFirst p ly x (n + 1) = (spriteShade p (spriteAt p.oam n) ly x).getD (overlayFirst p ly x n) := by
  rw [overlayFirst, List.range_succ, List.map_append, List.foldl_append]
  rfl

theorem overlayFirst_of_none {p : Ppu} {ly x n : Nat} (h : ∀ i < n, spriteShade p (spriteAt p.oam i) ly x = none) :
    overlayFirst p ly x n = bgShade p ly x := by
  induction n with
  | zero => rfl
  | succ n ih =>
    rw [overlayFirst_succ, h n (Nat.lt_succ_self n)]
    exact ih fun i hi => h i (Nat.lt_succ_of_lt hi)

/-- The last descriptor with a shade wins (R414). -/
theorem overlayFirst_of_last {p : Ppu} {ly x n i : Nat} {shade : Shade} (hi : i < n)
    (h : spriteShade p (spriteAt p.oam i) ly x = some shade)
    (hlast : ∀ j, i < j → j < n → spriteShade p (spriteAt p.oam j) ly x = none) : overlayFirst p ly x n = shade := by
  induction n with
  | zero => exact absurd hi (Nat.not_lt_zero i)
  | succ n ih =>
    rw [overlayFirst_succ]
    rcases Nat.lt_succ_iff_lt_or_eq.mp hi with hlt | rfl
    · rw [hlast n hlt (Nat.lt_succ_self n)]
      exact ih hlt fun j hij hj => hlast j hij (Nat.lt_succ_of_lt hj)
    · rw [h]
      rfl

/-- A descriptor's attributes in numbers (R66). -/
theorem spriteAt_eq (oam : Memory) (i : Nat) :
    spriteAt oam i =
      { y := ((oam.read (4 * i)).toNat : Int) - 16
        x := ((oam.read (4 * i + 1)).toNat : Int) - 8
        tile := oam.read (4 * i + 2)
        behind := decide ((oam.read (4 * i + 3)).toNat / 128 = 1)
        flipY := decide ((oam.read (4 * i + 3)).toNat / 64 % 2 = 1)
        flipX := decide ((oam.read (4 * i + 3)).toNat / 32 % 2 = 1)
        obp1 := decide ((oam.read (4 * i + 3)).toNat / 16 % 2 = 1) } := by
  have htop : (oam.read (4 * i + 3)).toNat / 128 % 2 = (oam.read (4 * i + 3)).toNat / 128 := Nat.mod_eq_of_lt (by omega)
  have hbit := fun k (hk : k < 8) => getLsbD_eq_digit (oam.read (4 * i + 3)) hk
  simp only [spriteAt, hbit 7 (by decide), hbit 6 (by decide), hbit 5 (by decide), hbit 4 (by decide), Nat.reducePow,
    htop]

/-- The rows of a sprite by LCDC bit 2 (R414). -/
theorem spriteHeight_eq (p : Ppu) : spriteHeight p = if p.lcdc.toNat / 4 % 2 = 1 then 16 else 8 := by
  rw [spriteHeight, getLsbD_eq_digit _ (by decide)]
  simp only [Nat.reducePow, decide_eq_true_eq]

/-- The tile row descriptor `i` shows on line `ly`, as its offset in video memory (R414). -/
def spriteRow (p : Ppu) (i ly : Nat) : Nat :=
  let y := (p.oam.read (4 * i)).toNat
  let ti := (p.oam.read (4 * i + 2)).toNat
  let attr := (p.oam.read (4 * i + 3)).toNat
  let h := if p.lcdc.toNat / 4 % 2 = 1 then 16 else 8
  let r := if attr / 64 % 2 = 1 then h - 1 - (ly + 16 - y) else ly + 16 - y
  let tile := if p.lcdc.toNat / 4 % 2 = 1 then 2 * (ti / 2) + r / 8 else ti
  16 * tile + 2 * (r % 8)

/-- The column of its tile descriptor `i` shows at column `x` (R414). -/
def spriteColumn (p : Ppu) (i x : Nat) : Nat :=
  let left := (p.oam.read (4 * i + 1)).toNat
  if (p.oam.read (4 * i + 3)).toNat / 32 % 2 = 1 then 7 - (x + 8 - left) else x + 8 - left

/-- Where descriptor `i` has a pixel (R414). -/
def SpriteCovers (p : Ppu) (i ly x : Nat) : Prop :=
  let y := (p.oam.read (4 * i)).toNat
  let left := (p.oam.read (4 * i + 1)).toNat
  y ≤ ly + 16 ∧ ly + 16 < y + (if p.lcdc.toNat / 4 % 2 = 1 then 16 else 8) ∧ left ≤ x + 8 ∧ x + 8 < left + 8

theorem spriteIndex_of_covers {p : Ppu} {i ly x : Nat} (h : SpriteCovers p i ly x) :
    spriteIndex p (spriteAt p.oam i) ly x =
      some (BitVec.ofNat 2 (rowDigits p.vram (spriteRow p i ly) (spriteColumn p i x))) := by
  obtain ⟨htop, hbottom, hleft, hright⟩ := h
  have hrow : ((ly : Int) - (((p.oam.read (4 * i)).toNat : Int) - 16)).toNat =
      ly + 16 - (p.oam.read (4 * i)).toNat := by
    omega
  have hcol : ((x : Int) - (((p.oam.read (4 * i + 1)).toNat : Int) - 8)).toNat =
      x + 8 - (p.oam.read (4 * i + 1)).toNat := by
    omega
  have htall : ((if p.lcdc.toNat / 4 % 2 = 1 then 16 else 8) = 16) = (p.lcdc.toNat / 4 % 2 = 1) := by
    split <;> simp [*]
  simp only [spriteAt_eq, spriteIndex, spriteHeight_eq, hrow, hcol, htall, evenTile_eq, decide_eq_true_eq,
    tilePixel_eq_rowDigits]
  rw [if_pos (by split at hbottom <;> simp [*] <;> omega)]
  rfl

theorem spriteIndex_of_not_covers {p : Ppu} {i ly x : Nat} (h : ¬ SpriteCovers p i ly x) :
    spriteIndex p (spriteAt p.oam i) ly x = none := by
  simp only [SpriteCovers] at h
  simp only [spriteAt_eq, spriteIndex, spriteHeight_eq]
  rw [if_neg fun hin => h (by split at hin <;> simp [*] <;> omega)]

/-- When descriptor `i` puts a shade on a pixel, and which one, in numbers (R414, R416). -/
theorem spriteShade_iff {p : Ppu} {i ly x : Nat} {shade : Shade} :
    spriteShade p (spriteAt p.oam i) ly x = some shade ↔
      SpriteCovers p i ly x ∧ rowDigits p.vram (spriteRow p i ly) (spriteColumn p i x) ≠ 0 ∧
        ((p.oam.read (4 * i + 3)).toNat / 128 = 1 → bgIndex p ly x = 0) ∧
        shade = BitVec.ofNat 2 ((if (p.oam.read (4 * i + 3)).toNat / 16 % 2 = 1 then p.obp1 else p.obp0).toNat /
          4 ^ rowDigits p.vram (spriteRow p i ly) (spriteColumn p i x) % 4) := by
  rw [spriteShade_eq_some]
  by_cases hc : SpriteCovers p i ly x
  · have hzero : BitVec.ofNat 2 (rowDigits p.vram (spriteRow p i ly) (spriteColumn p i x)) = 0 ↔
        rowDigits p.vram (spriteRow p i ly) (spriteColumn p i x) = 0 := by
      rw [← BitVec.toNat_inj, toNat_rowDigits]
      rfl
    rw [spriteIndex_of_covers hc, spriteAt_eq]
    simp only [Option.some.injEq, exists_eq_left', ne_eq, hzero, paletteShade_rowDigits, hc, true_and,
      decide_eq_true_eq]
  · simp only [spriteIndex_of_not_covers hc, hc, reduceCtorEq, false_and, exists_false]

/-- Settles O58: the overlay is decided by the last descriptor with a shade, and a descriptor's index and shade are
those of its tile row. -/
theorem spriteOverlay : Obligations.SpriteOverlay := by
  intro p ly x
  refine ⟨fun hon h => ?_, fun i hi shade hon h hlast => ?_, fun i _ => ⟨spriteAt_eq p.oam i, ?_, fun shade => ?_⟩⟩
  · rw [pixelShade_eq_overlay hon, overlayFirst_of_none h]
  · rw [pixelShade_eq_overlay hon, overlayFirst_of_last hi h hlast]
  · by_cases hc : SpriteCovers p i ly x
    · exact (spriteIndex_of_covers hc).trans (if_pos hc).symm
    · exact (spriteIndex_of_not_covers hc).trans (if_neg hc).symm
  · exact spriteShade_iff

/-! ### The keys -/

/-- A transition's bit is the key's, active low, and the other bits of the group stay (R46, R427). -/
theorem getLsbD_setKeyBit (group : BitVec 4) (i k : Fin 4) (pressed : Bool) :
    (setKeyBit group i pressed).getLsbD k.val = if i = k then !pressed else group.getLsbD k.val := by
  revert group i k pressed
  decide +kernel

/-- Every key has a place of its own (R46). -/
theorem key_eq_iff_place (k k' : Key) : k = k' ↔ k.place = k'.place := by
  constructor
  · exact congrArg Key.place
  · cases k <;> cases k' <;> decide

/-- A transition moves its own key and no other (R427). -/
theorem keyUp_apply (j : Joypad) (e : KeyEvent) (key : Key) :
    (j.apply e).keyUp key = if e.key = key then !e.pressed else j.keyUp key := by
  simp only [Joypad.apply, Joypad.keyUp, key_eq_iff_place]
  generalize e.key.place = moved, key.place = asked
  obtain ⟨dirMoved, i⟩ := moved
  obtain ⟨dirAsked, k⟩ := asked
  cases dirMoved <;> cases dirAsked <;> simp [getLsbD_setKeyBit, -BitVec.getLsbD_eq_getElem]

theorem sel_apply (j : Joypad) (e : KeyEvent) : (j.apply e).sel = j.sel := by
  unfold Joypad.apply
  split <;> rfl

/-- A press, within a list of transitions, of a key that is up at that point, given which keys are up before (R427). -/
def Presses (up : Key → Bool) (evs : List KeyEvent) : Prop :=
  ∃ pre e post, evs = pre ++ e :: post ∧ e.pressed = true ∧ upAfter e.key pre (up e.key) = true

theorem not_presses_nil (up : Key → Bool) : ¬ Presses up [] := by
  rintro ⟨pre, e, post, h, -⟩
  exact absurd h (by simp)

/-- The first transition is such a press, or a later one is. -/
theorem presses_cons (up : Key → Bool) (e : KeyEvent) (evs : List KeyEvent) :
    Presses up (e :: evs) ↔
      (e.pressed = true ∧ up e.key = true) ∨ Presses (fun key => if e.key = key then !e.pressed else up key) evs := by
  constructor
  · rintro ⟨pre, e', post, h, hp, hu⟩
    cases pre with
    | nil =>
      simp only [List.nil_append, List.cons.injEq] at h
      obtain ⟨rfl, -⟩ := h
      exact .inl ⟨hp, hu⟩
    | cons e0 pre =>
      simp only [List.cons_append, List.cons.injEq] at h
      obtain ⟨rfl, rfl⟩ := h
      exact .inr ⟨pre, e', post, rfl, hp, hu⟩
  · rintro (⟨hp, hu⟩ | ⟨pre, e', post, rfl, hp, hu⟩)
    · exact ⟨[], e, evs, rfl, hp, hu⟩
    · exact ⟨e :: pre, e', post, rfl, hp, hu⟩

/-- The drained list: each key as its last transition says, the select latch kept, and the request recorded exactly
when there is a press (R427). -/
theorem drain_spec (evs : List KeyEvent) (j : Joypad) (r : Bool) :
    (∀ key, (evs.foldl drainEvent (j, r)).1.keyUp key = upAfter key evs (j.keyUp key)) ∧
    (evs.foldl drainEvent (j, r)).1.sel = j.sel ∧
    ((evs.foldl drainEvent (j, r)).2 = true ↔ r = true ∨ Presses j.keyUp evs) := by
  induction evs generalizing j r with
  | nil => exact ⟨fun _ => rfl, rfl, by simp [not_presses_nil]⟩
  | cons e evs ih =>
    obtain ⟨hkeys, hsel, hreq⟩ := ih (j.apply e) (r || (e.pressed && j.keyUp e.key))
    refine ⟨fun key => (hkeys key).trans ?_, hsel.trans (sel_apply j e), hreq.trans ?_⟩
    · rw [keyUp_apply]
      rfl
    · rw [presses_cons, funext (keyUp_apply j e)]
      simp only [Bool.or_eq_true, Bool.and_eq_true, or_assoc]

/-- A drain of the next list: the joypad after it, the request if there was a press, the list gone (R356, R427). -/
theorem hostDrain_cons {s : State} {evs : List KeyEvent} {rest : List (List KeyEvent)}
    (h : s.host.keyStream = evs :: rest) :
    (hostDrain s).joypad = (evs.foldl drainEvent (s.joypad, false)).1 ∧
    (hostDrain s).mmu =
      (if (evs.foldl drainEvent (s.joypad, false)).2 then { s.mmu with irq := s.mmu.irq ||| 0b10000 } else s.mmu) ∧
    (hostDrain s).host = { s.host with keyStream := rest } := by
  simp only [hostDrain, h]
  split <;> exact ⟨rfl, rfl, rfl⟩

/-- Settles O60: the fold over the drained list decides the keys and the request; the rest is kept. -/
theorem hostDrainAppliesKeys : Obligations.HostDrainAppliesKeys := by
  intro s
  refine ⟨fun h => by rw [hostDrain, h], fun evs rest h => ?_⟩
  obtain ⟨hkeys, hsel, hreq⟩ := drain_spec evs s.joypad false
  obtain ⟨hjoypad, hmmu, hhost⟩ := hostDrain_cons h
  obtain ⟨hcpu, hppu, htimer, hcart, hstopped, -, -⟩ := hostDrain_kept s
  refine ⟨fun key => ?_, ?_, fun hp => hmmu.trans (if_pos (hreq.mpr (.inr hp))),
    fun hp => hmmu.trans (if_neg fun hr => hp ((hreq.mp hr).resolve_left Bool.false_ne_true)),
    hcpu, htimer, hppu, hcart, hstopped, hhost⟩
  · rw [hjoypad]
    exact hkeys key
  · rw [hjoypad]
    exact hsel

end Sys2Proof.Proofs.MachineState
end

section
/-! PROOF. The statements about the address map (spec 20_memory.md): the memories behind their windows, the bank
controller, and the stack as memory. -/

namespace Sys2Proof.Proofs.MemoryMap

open Sys2Proof Sys2Proof.Machine Sys2Proof.Safety Sys2Proof.Laws Sys2Proof.Proofs.Scope

/-! ### The memories behind their windows -/

/-- A bus access of video memory (R86). -/
theorem access_of_vram {a : Word} {o : Nat} (h : busRegion a = .vram o) (s : State) (v : Byte) :
    memRead s a = s.ppu.vram.read o ∧
      memWrite s a v = .ok { s with ppu := { s.ppu with vram := s.ppu.vram.write o v } } :=
  ⟨congrArg (regionRead s) h, by rw [memWrite, h]⟩

/-- A bus access of working RAM, under either of its addresses (R88). -/
theorem access_of_wram {a : Word} {o : Nat} (h : busRegion a = .wram o) (s : State) (v : Byte) :
    memRead s a = s.mmu.wram.read o ∧
      memWrite s a v = .ok { s with mmu := { s.mmu with wram := s.mmu.wram.write o v } } :=
  ⟨congrArg (regionRead s) h, by rw [memWrite, h]⟩

/-- A bus access of the sprite table (R89). -/
theorem access_of_oam {a : Word} {o : Nat} (h : busRegion a = .oam o) (s : State) (v : Byte) :
    memRead s a = s.ppu.oam.read o ∧
      memWrite s a v = .ok { s with ppu := { s.ppu with oam := s.ppu.oam.write o v } } :=
  ⟨congrArg (regionRead s) h, by rw [memWrite, h]⟩

/-- A bus access of zero-page RAM (R92). -/
theorem access_of_hram {a : Word} {o : Nat} (h : busRegion a = .hram o) (s : State) (v : Byte) :
    memRead s a = s.mmu.hram.read o ∧
      memWrite s a v = .ok { s with mmu := { s.mmu with hram := s.mmu.hram.write o v } } :=
  ⟨congrArg (regionRead s) h, by rw [memWrite, h]⟩

/-- External RAM is usable exactly when it is enabled and fitted (R87). -/
theorem eramUsable_iff (s : State) : eramUsable s = true ↔ s.mmu.ramEnable = true ∧ s.cart.ramBanks > 0 := by
  rw [eramUsable, Bool.and_eq_true, decide_eq_true_iff]

/-- A bus access of external RAM: the byte of the selected bank where it is usable, nothing otherwise (R87). -/
theorem access_of_eram {a : Word} {o : Nat} (h : busRegion a = .eram o) (s : State) (v : Byte) :
    memRead s a =
        (if s.mmu.ramEnable = true ∧ s.cart.ramBanks > 0 then s.mmu.eram.read (s.mmu.ramBank.toNat * 0x2000 + o)
        else 0x00) ∧
      memWrite s a v =
        .ok
          (if s.mmu.ramEnable = true ∧ s.cart.ramBanks > 0 then
            { s with mmu := { s.mmu with eram := s.mmu.eram.write (s.mmu.ramBank.toNat * 0x2000 + o) v } }
          else s) := by
  have hread : memRead s a = eramRead s o := congrArg (regionRead s) h
  have hwrite : memWrite s a v = .ok (eramWrite s o v) := by rw [memWrite, h]
  simp only [← eramUsable_iff]
  exact ⟨hread, hwrite⟩

/-- The fixed ROM window shows bank 0 (R84). -/
theorem memRead_rom0 (s : State) {k : Nat} (h : k < 0x4000) : memRead s (BitVec.ofNat 16 k) = s.cart.rom.read k := by
  have ha : (BitVec.ofNat 16 k).toNat = k := Nat.mod_eq_of_lt (by omega)
  have hr : busRegion (BitVec.ofNat 16 k) = .rom0 k := by
    simp (disch := omega) only [busRegion, ha, if_pos]
  exact congrArg (regionRead s) hr

/-- The switchable ROM window shows the selected bank (R85). -/
theorem memRead_romBank (s : State) {k : Nat} (h : k < 0x4000) :
    memRead s (BitVec.ofNat 16 (0x4000 + k)) = s.cart.rom.read (s.mmu.romBank.toNat * 0x4000 + k) := by
  have hr : busRegion (BitVec.ofNat 16 (0x4000 + k)) = .romBank k := by
    simp (disch := omega) only [busRegion, toNat_address, if_pos, if_neg, Nat.add_sub_cancel_left]
  exact congrArg (regionRead s) hr

/-- The last 0x200 bytes of working RAM have one address each (R88). -/
theorem eq_of_busRegion_without_echo {a b : Word} (hlo : 0xDE00 ≤ a.toNat) (hhi : a.toNat ≤ 0xDFFF)
    (h : busRegion b = .wram (a.toNat - 0xC000)) : b = a := by
  simp only [busRegion] at h
  split_ifs at h <;> simp only [Region.wram.injEq] at h
  · exact BitVec.eq_of_toNat_eq (by omega)
  · omega

/-- Settles O46: each window is its array at the offset, and no second address reaches a byte without an echo. -/
theorem echoOfWorkingRam : Obligations.EchoOfWorkingRam := by
  intro s v
  refine ⟨fun k hk => access_of_wram (busRegion_wram hk) s v, fun k hk => ?_, fun a b hlo hhi hne t ht => ?_,
    fun k hk => access_of_vram (busRegion_vram hk) s v, fun k hk => access_of_oam (busRegion_oam hk) s v,
    fun k hk => access_of_hram (busRegion_hram hk) s v⟩
  · obtain ⟨hread, hwrite⟩ := access_of_wram (busRegion_wram (k := k) (by omega)) s v
    obtain ⟨hreadEcho, hwriteEcho⟩ := access_of_wram (busRegion_echo hk) s v
    exact ⟨hreadEcho.trans hread.symm, hwriteEcho.trans hwrite.symm⟩
  · have hr : busRegion a = .wram (a.toNat - 0xC000) := by simp (disch := omega) only [busRegion, if_pos, if_neg]
    have hother : mayChange a b = false := by
      rw [mayChange, hr]
      exact decide_eq_false fun h => hne (eq_of_busRegion_without_echo hlo hhi h)
    exact (memWrite_kept ht).bytes b fun c hc => List.mem_singleton.mp hc ▸ hother

/-! ### The bank controller -/

/-- A bus write is fatal exactly when the bank controller rejects the index (R83, R343). -/
theorem memWrite_error_iff (s : State) (a : Word) (v : Byte) (f : Fault) :
    memWrite s a v = .error f ↔ ∃ k, f = .bankIndexOutOfRange k ∧ rejectedBank s a v = some k := by
  constructor
  · intro h
    cases hr : rejectedBank s a v with
    | none =>
      obtain ⟨t, ht⟩ := memWrite_of_accepted hr
      rw [ht] at h
      cases h
    | some k =>
      rw [memWrite_of_rejected hr] at h
      injection h with h
      exact ⟨k, h.symm, rfl⟩
  · rintro ⟨k, rfl, hr⟩
    exact memWrite_of_rejected hr

theorem memWrite_of_le {a : Word} (h : a.toNat ≤ 0x7FFF) (s : State) (v : Byte) :
    memWrite s a v = bankCommand s a v := memWrite_rom (decide_eq_true h) s v

/-- The candidates of a ROM bank command as the numbers the statements use (R101, R102). -/
theorem romBankLowCand_eq (s : State) (v : Byte) : romBankLowCand s v = BitVec.ofNat 7 (lowCandidate s v) := by
  rw [← romBankLowCand_toNat, BitVec.ofNat_toNat, BitVec.setWidth_eq]

theorem romBankHighCand_eq (s : State) (v : Byte) : romBankHighCand s v = BitVec.ofNat 7 (highCandidate s v) := by
  rw [← romBankHighCand_toNat, BitVec.ofNat_toNat, BitVec.setWidth_eq]

theorem selectRomBank_of_lt {s : State} {b : BitVec 7} (h : b.toNat < s.cart.romBanks) :
    selectRomBank s b = .ok { s with mmu := { s.mmu with romBank := b } } := if_neg (Nat.not_le.mpr h)

theorem selectRamBank_of_lt {s : State} {b : BitVec 2} (h : b.toNat < max s.cart.ramBanks 1) :
    selectRamBank s b = .ok { s with mmu := { s.mmu with ramBank := b } } := if_neg (Nat.not_le.mpr h)

/-! The byte of a bank command in numbers (R100, R102, R103). -/

theorem lowNibble_eq_iff (v : Byte) : v &&& 0x0F = 0x0A ↔ v.toNat % 16 = 0xA := by
  revert v
  decide +kernel

theorem setWidth_two (v : Byte) : v.setWidth 2 = BitVec.ofNat 2 (v.toNat % 4) := by
  revert v
  decide +kernel

theorem getLsbD_zero (v : Byte) : v.getLsbD 0 = decide (v.toNat % 2 = 1) := by
  revert v
  decide +kernel

section Banked

variable {s : State} (hb : s.cart.banked = true) (v : Byte)

include hb

/-- RAM enable (R100). -/
theorem memWrite_ramEnable {a : Word} (h : a.toNat ≤ 0x1FFF) :
    memWrite s a v = .ok { s with mmu := { s.mmu with ramEnable := decide (v.toNat % 16 = 0xA) } } := by
  rw [memWrite_of_le (by omega), bankCommand, if_pos hb, if_pos h, decide_eq_decide.mpr (lowNibble_eq_iff v)]

/-- The low bits of the ROM bank (R101). -/
theorem memWrite_romBankLow {a : Word} (hlo : 0x2000 ≤ a.toNat) (hhi : a.toNat ≤ 0x3FFF)
    (hlt : lowCandidate s v < s.cart.romBanks) :
    memWrite s a v = .ok { s with mmu := { s.mmu with romBank := BitVec.ofNat 7 (lowCandidate s v) } } := by
  rw [memWrite_of_le (by omega), bankCommand, if_pos hb, if_neg (by omega), if_pos hhi,
    selectRomBank_of_lt (by rwa [romBankLowCand_toNat]), romBankLowCand_eq]

/-- The high bits of the ROM bank, in ROM-banking mode (R102). -/
theorem memWrite_romBankHigh {a : Word} (hlo : 0x4000 ≤ a.toNat) (hhi : a.toNat ≤ 0x5FFF)
    (hmode : s.mmu.bankMode = false) (hlt : highCandidate s v < s.cart.romBanks) :
    memWrite s a v = .ok { s with mmu := { s.mmu with romBank := BitVec.ofNat 7 (highCandidate s v) } } := by
  rw [memWrite_of_le (by omega), bankCommand, if_pos hb, if_neg (by omega), if_neg (by omega), if_pos hhi,
    if_neg (by simp [hmode]), selectRomBank_of_lt (by rwa [romBankHighCand_toNat]), romBankHighCand_eq]

/-- The RAM bank, in RAM-banking mode (R102). -/
theorem memWrite_ramBank {a : Word} (hlo : 0x4000 ≤ a.toNat) (hhi : a.toNat ≤ 0x5FFF)
    (hmode : s.mmu.bankMode = true) (hlt : v.toNat % 4 < max s.cart.ramBanks 1) :
    memWrite s a v = .ok { s with mmu := { s.mmu with ramBank := BitVec.ofNat 2 (v.toNat % 4) } } := by
  rw [memWrite_of_le (by omega), bankCommand, if_pos hb, if_neg (by omega), if_neg (by omega), if_pos hhi,
    if_pos hmode, selectRamBank_of_lt (by rwa [BitVec.toNat_setWidth]), setWidth_two]

/-- The banking mode (R103). -/
theorem memWrite_bankMode {a : Word} (hlo : 0x6000 ≤ a.toNat) (hhi : a.toNat ≤ 0x7FFF) :
    memWrite s a v = .ok { s with mmu := { s.mmu with bankMode := decide (v.toNat % 2 = 1) } } := by
  rw [memWrite_of_le hhi, bankCommand, if_pos hb, if_neg (by omega), if_neg (by omega), if_neg (by omega),
    getLsbD_zero]

end Banked

/-- Settles O42: the rejected writes are the fatal ones, each range of the ROM sets its own setting, and the window of
external RAM is the selected bank. -/
theorem bankCommands : Obligations.BankCommands := by
  intro s a v
  refine ⟨memWrite_error_iff s a v, fun ha h0 => ?_, fun hb => memWrite_ramEnable hb v,
    fun hb => memWrite_romBankLow hb v, fun hb => memWrite_romBankHigh hb v, fun hb => memWrite_ramBank hb v,
    fun hb => memWrite_bankMode hb v, fun k hk => access_of_eram (busRegion_eram hk) s v⟩
  rw [memWrite_of_le ha, bankCommand, if_neg (by simp [banked_of_noController h0])]

/-- With the upper bank bits 0 a five-bit number asks for itself, and 0 for bank 1 (R101). -/
theorem lowCandidate_of_small {s : State} {n : Byte} (hs : s.mmu.romBank.toNat < 32) (hn : n.toNat < 32) :
    lowCandidate s n = if n = 0 then 1 else n.toNat := by
  have h0 : n.toNat = 0 ↔ n = 0 := BitVec.toNat_inj (y := 0)
  rw [lowCandidate, Nat.div_eq_of_lt hs, Nat.mod_eq_of_lt hn, Nat.mul_zero, Nat.zero_add]
  simp only [h0]

/-- Settles O43: the command selects the bank the window then shows; the fixed window does not depend on it. -/
theorem romBankWindow : Obligations.RomBankWindow := by
  intro s a n hb hbanks hs hlo hhi hn hlt
  have hcand := lowCandidate_of_small hs hn
  have hrange : lowCandidate s n < s.cart.romBanks ∧ lowCandidate s n < 128 := by
    rw [hcand]
    split <;> omega
  obtain ⟨haccept, hwidth⟩ := hrange
  refine ⟨_, memWrite_romBankLow hb n hlo hhi haccept, fun k hk => ?_,
    fun k hk => ⟨memRead_rom0 s hk, memRead_rom0 _ hk⟩⟩
  rw [memRead_romBank _ hk, BitVec.toNat_ofNat, Nat.mod_eq_of_lt hwidth, hcand]

/-! ### The stack as memory -/

theorem exec_pop (p : StackPair) (s : State) : exec (Instr.pop p) s = popPair p s := by cases p <;> rfl

/-- The bank controller rejects nothing above the ROM range (R83). -/
theorem rejectedBank_above_rom {s : State} {a : Word} (h : isBankCommand a = false) (v : Byte) :
    rejectedBank s a v = none := by
  have ha : ¬ a.toNat ≤ 0x7FFF := of_decide_eq_false h
  simp (disch := omega) only [rejectedBank, if_neg, ite_self]

/-- A two-byte write above the ROM range is accepted (R83, R115). -/
theorem rejectedBank16_above_rom {s : State} {a : Word} (v : Word) (h : isBankCommand a = false)
    (h1 : isBankCommand (a + 1) = false) : rejectedBank16 s a v = none := by
  obtain ⟨t, ht⟩ := memWrite_of_accepted (rejectedBank_above_rom (s := s) h (loByte v))
  simp only [rejectedBank16, rejectedBank_above_rom h, ht, rejectedBank_above_rom h1]

/-- A word stored to two ordinary, separate locations reads back as it was stored (R110). -/
theorem readsBack_of_storesWord {i : Instr} {s : State} {a v : Word} {c : Cpu} (h : StoresWord i s a v c)
    (hm : Canonical s) (hk : keepsByte s a = true) (hk1 : keepsByte s (a + 1) = true)
    (hne : mayChange (a + 1) a = false) :
    ∃ t, exec i s = .next t ∧ t.cpu = c ∧ memRead16 t a = v := by
  obtain ⟨t, -, ht, -, hlow, hhigh⟩ :=
    h.1 (rejectedBank16_above_rom v (not_bankCommand_of_keeps hk) (not_bankCommand_of_keeps hk1))
  refine ⟨_, ht, rfl, ?_⟩
  rw [memRead16, hlow hm hk hne, hhigh hm hk hk1, joinBytes_hi_lo]

theorem ofByte_toByte (f : Flags) : Flags.ofByte f.toByte = f := by
  have h : ∀ z n h c : Bool, Flags.ofByte (Flags.mk z n h c).toByte = ⟨z, n, h, c⟩ := by decide
  exact h f.z f.n f.h f.c

/-- Writing a pair with the value it has changes no register (R32, R33). -/
theorem setStackPair_stackPair (k : Cpu) (p : StackPair) : k.setStackPair p (k.stackPair p) = k := by
  cases p <;>
    simp [Cpu.setStackPair, Cpu.stackPair, Cpu.setBc, Cpu.setDe, Cpu.setHl, Cpu.setAf, Cpu.bc, Cpu.de, Cpu.hl, Cpu.af,
      ofByte_toByte]

/-- Settles O17: the push leaves the pair on top of the stack, and the pop takes that word and moves SP back. -/
theorem pushThenPop : Obligations.PushThenPop := by
  intro p s hm hk hk1 hne
  obtain ⟨hpush, -⟩ := pushStoresThePair p s
  obtain ⟨t, ht, hcpu, htop⟩ := readsBack_of_storesWord hpush hm hk hk1 hne
  have hword : popWord t = s.cpu.stackPair p := by
    rw [popWord, hcpu]
    exact htop
  refine ⟨t, _, ht, exec_pop p t, ?_⟩
  have hkept : (retired { s.cpu with sp := s.cpu.sp - 2 } 1 4).popped.stackPair p = s.cpu.stackPair p := by
    cases p <;> rfl
  rw [hword, hcpu, ← hkept, setStackPair_stackPair]
  simp [retired, Cpu.popped, Cpu.retire, BitVec.add_assoc]

end Sys2Proof.Proofs.MemoryMap
end

section
/-! PROOF. The statements about the encoding (spec 30_encoding.md): the decoder and the encoder invert each other, the
extended instructions, the 16-bit sums, and the reserved opcodes. -/

namespace Sys2Proof.Proofs.Encoding

open Sys2Proof Sys2Proof.Machine Sys2Proof.Safety Sys2Proof.Laws Sys2Proof.Proofs.Scope Sys2Proof.Proofs.MemoryMap

/-! ### Decoding an encoded instruction -/

/-- The bytes are one whole instruction by the length table, and it is `i` whatever bytes follow it (R140, R141). -/
def EntryOf (i : Instr) : List Byte → Prop
  | [op] => opLength op = 1 ∧ ∀ b1 b2, decodeBytes op b1 b2 = i
  | [op, b1] => opLength op = 2 ∧ ∀ b2, decodeBytes op b1 b2 = i
  | [op, b1, b2] => opLength op = 3 ∧ decodeBytes op b1 b2 = i
  | _ => False

/-- The decoder takes an entry's bytes and leaves exactly the bytes after them. -/
theorem decode_of_entry {i : Instr} {bytes : List Byte} (h : EntryOf i bytes) (rest : List Byte) :
    decode (bytes ++ rest) = .ok (i, rest) := by
  match bytes, h with
  | [op], ⟨hlen, hi⟩ => simp [decode, hlen, hi]
  | [op, b1], ⟨hlen, hi⟩ => simp [decode, hlen, hi]
  | [op, b1, b2], ⟨hlen, hi⟩ => simp [decode, hlen, hi]

/-- An immediate word follows its opcode low byte first (R147). -/
theorem decodeBytes_word {op : Byte} (h : op ≠ 0xCB) (nn : Word) :
    decodeBytes op (loByte nn) (hiByte nn) = decodeBase op (loByte nn) nn := by
  rw [decodeBytes, if_neg h, joinBytes_hi_lo]

/-- A well-formed instruction is the entry of its bytes: its immediate word is read back from the two bytes, every other
operand is a byte as it stands. -/
theorem entryOf_encode {i : Instr} (h : i.wellFormed = true) : EntryOf i (encode i) := by
  cases i with
  | prefix_CB => exact absurd h (by decide)
  | ld_BC_nn | ld_DE_nn | ld_HL_nn | ld_SP_nn | ld_atnn_SP | ld_atnn_A | ld_A_atnn
  | jp_nn | jp_NZ_nn | jp_Z_nn | jp_NC_nn | jp_C_nn | call_nn | call_NZ_nn | call_Z_nn | call_NC_nn | call_C_nn =>
    exact And.intro rfl (decodeBytes_word (by decide) _)
  | _ =>
    refine And.intro rfl ?_
    intros
    rfl

/-- Settles O1: the decoder reads an instruction's own bytes as their entry. -/
theorem decodeInvertsEncode : Obligations.DecodeInvertsEncode :=
  fun _ rest h => decode_of_entry (entryOf_encode h) rest

/-- Settles O3: each word runs through the length table and the opcode maps. -/
theorem specWordsDecode : Obligations.SpecWordsDecode := by
  unfold Obligations.SpecWordsDecode
  and_intros <;> rfl

/-! ### Encoding a decoded instruction -/

/-- A fact about a map's entries, read off its rows: row = high nibble of the opcode, column = low nibble (R152, R154). -/
theorem entry_of_rows {α : Type} {rows : List (List Instr)} {f : Instr → α} {g : Byte → α}
    (h : rows.map (List.map f) = opcodeRows.map (List.map g)) (op : Byte) :
    f ((rows.getD (op.toNat / 16) []).getD (op.toNat % 16) .nop) = g op := by
  have hrow : op.toNat / 16 < 16 := by omega
  have hcol : op.toNat % 16 < 16 := Nat.mod_lt _ (by decide)
  calc f ((rows.getD (op.toNat / 16) []).getD (op.toNat % 16) .nop)
      = ((rows.map (List.map f)).getD (op.toNat / 16) []).getD (op.toNat % 16) (f .nop) := by
        rw [show ([] : List α) = List.map f [] from rfl, List.getD_map, List.getD_map]
    _ = g (BitVec.ofNat 8 (16 * (op.toNat / 16) + op.toNat % 16)) := by
        rw [h]
        simp [opcodeRows, hrow, hcol]
    _ = g op := by rw [Nat.div_add_mod, BitVec.ofNat_toNat, BitVec.setWidth_eq]

/-- The operand bytes behind an opcode, as many as the length table gives (R141, R142). -/
def operandBytes (op n : Byte) (nn : Word) : List Byte :=
  if opLength op = 3 then wordBytes nn else [n].take (opLength op - 1)

/-- The bytes of the base map's entries: STOP's operand byte is conventional, 0xCB stands alone (R323, R326). -/
def entryBytes (n : Byte) (nn : Word) (op : Byte) : List Byte :=
  if op = 0x10 then [0x10, 0x00] else if op = 0xCB then [0xCB] else op :: operandBytes op n nn

theorem encode_decodeBase (op n : Byte) (nn : Word) : encode (decodeBase op n nn) = entryBytes n nn op :=
  entry_of_rows (rows := baseRows n nn) rfl op

theorem encode_decodeExt (op2 : Byte) : encode (decodeExt op2) = [0xCB, op2] :=
  entry_of_rows (rows := extRows) (g := fun b => [0xCB, b]) rfl op2

theorem opLength_cases (op : Byte) : opLength op = 1 ∨ opLength op = 2 ∨ opLength op = 3 := by
  revert op
  decide +kernel

theorem operandBytes_joinBytes (op b1 b2 : Byte) :
    op :: operandBytes op b1 (joinBytes b2 b1) = [op, b1, b2].take (opLength op) := by
  rcases opLength_cases op with h | h | h <;> simp [operandBytes, wordBytes, h]

/-- The bytes of a decoded instruction are those it was decoded from. -/
theorem encode_decodeBytes {b0 : Byte} (h : b0 ≠ 0x10) (b1 b2 : Byte) :
    encode (decodeBytes b0 b1 b2) = [b0, b1, b2].take (opLength b0) := by
  unfold decodeBytes
  split
  · next hcb =>
    rw [encode_decodeExt, hcb]
    rfl
  · next hcb => rw [encode_decodeBase, entryBytes, if_neg h, if_neg hcb, operandBytes_joinBytes]

/-- The decoder never reads 0xCB alone: an entry of the extended map has two bytes, and no other entry of the base
map begins with 0xCB (R326). -/
theorem decodeBytes_wellFormed (b0 b1 b2 : Byte) : (decodeBytes b0 b1 b2).wellFormed = true := by
  refine decide_eq_true fun h => ?_
  have hcb : 0xCB = b0 := (congrArg firstByte h).symm.trans (firstByte_decodeBytes b0 b1 b2)
  rw [← hcb, decodeBytes, if_pos rfl] at h
  have hbytes : [0xCB, b1] = encode .prefix_CB := h ▸ (encode_decodeExt b1).symm
  cases hbytes

/-- Settles O2: the tables' entries encode to their bytes, and the decoder looks only at whether the bytes are there. -/
theorem encodeInvertsDecode : Obligations.EncodeInvertsDecode := by
  refine ⟨fun b0 b1 b2 h => encode_decodeBytes h b1 b2, fun _ _ => rfl, decodeBytes_wellFormed, fun _ => rfl, rfl,
    fun op rest => ⟨fun h => ?_, fun h => ⟨decodeBytes op (rest.getD 0 0) (rest.getD 1 0), ?_⟩⟩⟩
  · rw [decode, if_pos h]
  · rw [decode, if_neg (Nat.not_lt.mpr h)]

/-! ### The extended instructions -/

/-- The extended map's entries mean what the fields of their second byte say (R154). -/
theorem exec_decodeExt (op2 : Byte) (s : State) : exec (decodeExt op2) s = execExtended op2 s :=
  entry_of_rows (rows := extRows) (f := fun i => exec i s) (g := fun b => execExtended b s) rfl op2

theorem modifyMem_completes {s : State} {r : Byte} (h : rejectedBank s s.cpu.hl r = none) (f : Flags) (len : Word)
    (m : Nat) : ∃ t, modifyMem r f len m s = .next t := by
  obtain ⟨u, hu⟩ := memWrite_of_accepted h
  exact ⟨_, by rw [modifyMem, hu, afterWrite]⟩

/-- An extended instruction is fatal only by a rejected write to HL. -/
theorem execExtended_completes {s : State} (h : ∀ r, rejectedBank s s.cpu.hl r = none) (op2 : Byte) :
    ∃ t, execExtended op2 s = .next t := by
  unfold execExtended
  simp only []
  split
  · split_ifs <;> exact ⟨_, rfl⟩
  · split_ifs
    · exact modifyMem_completes (h _) _ 2 4
    · exact ⟨_, rfl⟩
    · exact modifyMem_completes (h _) _ 2 4
    · exact modifyMem_completes (h _) _ 2 4

/-- The bank controller rejects a write only to a command with a bank index (R101, R102). -/
theorem rejectedBank_outside {s : State} {a : Word} (h : a.toNat < 0x2000 ∨ 0x5FFF < a.toNat ∨ s.cart.banked = false)
    (v : Byte) : rejectedBank s a v = none := by
  unfold rejectedBank
  split
  · rfl
  · next hb =>
    have ha := (or_assoc.mpr h).resolve_right hb
    rw [if_neg (by omega), if_neg (by omega)]

/-- Settles O41: both are the second byte's entry of the extended table, which moves PC by its two bytes and completes
when its write is accepted. -/
theorem prefixRunsTheExtendedInstruction : Obligations.PrefixRunsTheExtendedInstruction := by
  intro s
  refine ⟨(exec_decodeExt _ s).symm, fun h => ?_⟩
  obtain ⟨t, ht⟩ := execExtended_completes (rejectedBank_outside h) (memRead s (s.cpu.pc + 1))
  exact ⟨t, ht, advances_execExtended _ s t ht⟩

/-! ### The 16-bit sums -/

theorem exec_addHl (p : Pair) (s : State) : exec (Instr.addHl p) s = addHl p s := by cases p <;> rfl

/-! A carry out of a field is an overflow of the fields' remainders (R18). -/

theorem half16_eq (a b : Word) : half16 a b = decide (a.toNat % 4096 + b.toNat % 4096 > 4095) := by
  have h (v : Word) : (v &&& 0x0FFF).toNat = v.toNat % 4096 := Nat.and_two_pow_sub_one_eq_mod v.toNat 12
  rw [half16, h, h]

theorem half8_eq (a b : Byte) : half8 a b false = decide (a.toNat % 16 + b.toNat % 16 > 15) := by
  have h (v : Byte) : (v &&& 0x0F).toNat = v.toNat % 16 := Nat.and_two_pow_sub_one_eq_mod v.toNat 4
  rw [half8, h, h]
  rfl

theorem toNat_loByte (w : Word) : (loByte w).toNat = w.toNat % 256 := BitVec.toNat_setWidth 8 w

theorem add_sext16 (w : Word) (n : Byte) : w + sext16 n = displaced w n := by
  rw [displaced, BitVec.ofInt_add, BitVec.ofInt_natCast, BitVec.ofNat_toNat, BitVec.setWidth_eq]
  rfl

theorem addHlFlags_eq (f : Flags) (a b : Word) :
    addHlFlags f a b =
      { z := f.z, n := false, h := decide (a.toNat % 4096 + b.toNat % 4096 > 4095),
        c := decide (a.toNat + b.toNat > 65535) } := by
  rw [addHlFlags, half16_eq, carry16]

theorem addSpFlags_eq (sp : Word) (n : Byte) :
    addSpFlags sp n =
      { z := false, n := false, h := decide (sp.toNat % 256 % 16 + n.toNat % 16 > 15),
        c := decide (sp.toNat % 256 + n.toNat > 255) } := by
  rw [addSpFlags, half8_eq, carry8, toNat_loByte]
  rfl

/-- An instruction whose whole meaning is a new CPU. -/
theorem cpuOnly_of_exec {i : Instr} {s : State} {c : Cpu} (h : exec i s = .next (s.withCpu c)) : CpuOnly i s c :=
  ⟨h, memRead_withCpu s c⟩

/-- Settles O13: the sums and the flags of the meanings, in numbers. -/
theorem sixteenBitSums : Obligations.SixteenBitSums := by
  intro p n s
  refine ⟨cpuOnly_of_exec ?_, cpuOnly_of_exec ?_, cpuOnly_of_exec ?_⟩
  · rw [exec_addHl, addHl, addHlFlags_eq, BitVec.ofNat_add, BitVec.ofNat_toNat, BitVec.ofNat_toNat, BitVec.setWidth_eq,
      BitVec.setWidth_eq]
    rfl
  · change addSp n s = _
    rw [addSp, addSpFlags_eq, add_sext16]
    rfl
  · change ldHlSp n s = _
    rw [ldHlSp, addSpFlags_eq, add_sext16]
    rfl

/-! ### The reserved opcodes -/

/-- The opcode byte of the twelve instructions that are fatal by themselves (R323, R327). -/
def fatalOpcode : Instr → Option Byte
  | .stop => some 0x10
  | .reserved_D3 => some 0xD3
  | .reserved_DB => some 0xDB
  | .reserved_DD => some 0xDD
  | .reserved_E3 => some 0xE3
  | .reserved_E4 => some 0xE4
  | .reserved_EB => some 0xEB
  | .reserved_EC => some 0xEC
  | .reserved_ED => some 0xED
  | .reserved_F4 => some 0xF4
  | .reserved_FC => some 0xFC
  | .reserved_FD => some 0xFD
  | _ => none

/-- The bytes the statement lists. -/
def fatalBytes : List Byte := [0xD3, 0xDB, 0xDD, 0xE3, 0xE4, 0xEB, 0xEC, 0xED, 0xF4, 0xFC, 0xFD, 0x10]

theorem fatalOpcode_decodeBase (op n : Byte) (nn : Word) :
    fatalOpcode (decodeBase op n nn) = if op ∈ fatalBytes then some op else none :=
  entry_of_rows (rows := baseRows n nn) (g := fun b => if b ∈ fatalBytes then some b else none) rfl op

theorem fatalOpcode_decodeExt (op2 : Byte) : fatalOpcode (decodeExt op2) = none :=
  entry_of_rows (rows := extRows) (g := fun _ => none) rfl op2

/-- A decoded instruction is fatal by itself exactly when its first byte is listed; 0xCB is not (R152, R154). -/
theorem fatalOpcode_decodeBytes (b0 b1 b2 : Byte) :
    fatalOpcode (decodeBytes b0 b1 b2) = if b0 ∈ fatalBytes then some b0 else none := by
  unfold decodeBytes
  split
  · next h => rw [fatalOpcode_decodeExt, h]; rfl
  · exact fatalOpcode_decodeBase b0 b1 _

/-- The result is no reserved opcode's fatal condition (R341). -/
def NotReserved (r : Result) : Prop := ∀ x, r ≠ .fault (.reservedOpcode x)

theorem notReserved_next {t : State} : NotReserved (.next t) := fun _ h => nomatch h

/-- A bus access raises no fatal condition but the bank controller's (R343). -/
def BankFaultsOnly (w : Except Fault State) : Prop := ∀ f, w = .error f → ∃ k, f = .bankIndexOutOfRange k

theorem memWrite_bankFaultsOnly (s : State) (a : Word) (v : Byte) : BankFaultsOnly (memWrite s a v) := by
  intro f h
  obtain ⟨k, hk, -⟩ := (memWrite_error_iff s a v f).mp h
  exact ⟨k, hk⟩

theorem memWrite16_bankFaultsOnly (s : State) (a v : Word) : BankFaultsOnly (memWrite16 s a v) := by
  intro f h
  cases hr : rejectedBank16 s a v with
  | none =>
    obtain ⟨t, ht⟩ := memWrite16_of_accepted hr
    cases ht.symm.trans h
  | some k =>
    cases (memWrite16_of_rejected hr).symm.trans h
    exact ⟨k, rfl⟩

theorem push16_bankFaultsOnly (s : State) (v : Word) : BankFaultsOnly (push16 s v) :=
  memWrite16_bankFaultsOnly _ _ v

theorem notReserved_afterWrite {w : Except Fault State} {k : State → State} (h : BankFaultsOnly w) :
    NotReserved (afterWrite w k) := by
  intro x hx
  cases w with
  | ok u => cases hx
  | error f =>
    obtain ⟨b, rfl⟩ := h f rfl
    cases hx

theorem notReserved_modifyMem (r : Byte) (f : Flags) (len : Word) (m : Nat) (s : State) :
    NotReserved (modifyMem r f len m s) := notReserved_afterWrite (memWrite_bankFaultsOnly _ _ _)

theorem notReserved_callTo (w len : Word) (m : Nat) (s : State) : NotReserved (callTo w len m s) :=
  notReserved_afterWrite (push16_bankFaultsOnly _ _)

theorem notReserved_jumpCond (cc : Cond) (w len : Word) (m mt : Nat) (s : State) :
    NotReserved (jumpCond cc w len m mt s) := by
  unfold jumpCond
  split <;> exact notReserved_next

theorem notReserved_callCond (cc : Cond) (w : Word) (s : State) : NotReserved (callCond cc w s) := by
  unfold callCond
  split
  · exact notReserved_callTo w 3 6 s
  · exact notReserved_next

theorem notReserved_retCond (cc : Cond) (s : State) : NotReserved (retCond cc s) := by
  unfold retCond
  split <;> exact notReserved_next

theorem notReserved_execExtended (op2 : Byte) (s : State) : NotReserved (execExtended op2 s) := by
  unfold execExtended
  simp only []
  split
  · split_ifs <;> exact notReserved_next
  · split_ifs
    · exact notReserved_modifyMem _ _ 2 4 s
    · exact notReserved_next
    · exact notReserved_modifyMem _ _ 2 4 s
    · exact notReserved_modifyMem _ _ 2 4 s

/-- Every instruction but the twelve is fatal only by a rejected write: the storing ones, the pushes and the calls; all
others answer a next state. -/
theorem exec_notReserved {i : Instr} (h : fatalOpcode i = none) (s : State) : NotReserved (exec i s) := by
  cases i with
  | stop | reserved_D3 | reserved_DB | reserved_DD | reserved_E3 | reserved_E4 | reserved_EB | reserved_EC
  | reserved_ED | reserved_F4 | reserved_FC | reserved_FD => cases h
  | ld_atBC_A | ld_atDE_A | ld_atHLi_A | ld_atHLd_A | ld_atHL_n | ldh_atn_A | ldh_atC_A | ld_atnn_A
  | ld_atHL_B | ld_atHL_C | ld_atHL_D | ld_atHL_E | ld_atHL_H | ld_atHL_L | ld_atHL_A | inc_atHL | dec_atHL
  | rlc_atHL | rrc_atHL | rl_atHL | rr_atHL | sla_atHL | sra_atHL | swap_atHL | srl_atHL
  | res_0_atHL | res_1_atHL | res_2_atHL | res_3_atHL | res_4_atHL | res_5_atHL | res_6_atHL | res_7_atHL
  | set_0_atHL | set_1_atHL | set_2_atHL | set_3_atHL | set_4_atHL | set_5_atHL | set_6_atHL | set_7_atHL =>
    exact notReserved_afterWrite (memWrite_bankFaultsOnly _ _ _)
  | ld_atnn_SP => exact notReserved_afterWrite (memWrite16_bankFaultsOnly _ _ _)
  | push_BC | push_DE | push_HL | push_AF => exact notReserved_afterWrite (push16_bankFaultsOnly _ _)
  | call_nn | rst_00 | rst_08 | rst_10 | rst_18 | rst_20 | rst_28 | rst_30 | rst_38 =>
    exact notReserved_callTo _ _ _ s
  | jr_NZ_e | jr_Z_e | jr_NC_e | jr_C_e | jp_NZ_nn | jp_Z_nn | jp_NC_nn | jp_C_nn =>
    exact notReserved_jumpCond _ _ _ _ _ s
  | call_NZ_nn | call_Z_nn | call_NC_nn | call_C_nn => exact notReserved_callCond _ _ s
  | ret_NZ | ret_Z | ret_NC | ret_C => exact notReserved_retCond _ s
  | prefix_CB => exact notReserved_execExtended _ s
  | _ => exact notReserved_next

/-- The twelve answer their own opcode, whatever the state. -/
theorem exec_of_fatalOpcode {i : Instr} {op : Byte} (h : fatalOpcode i = some op) (s : State) :
    exec i s = .fault (.reservedOpcode op) := by
  unfold fatalOpcode at h
  split at h <;> cases h <;> rfl

/-- Settles O40: the decoder answers one of the twelve exactly on their bytes, and a running machine's step is its
instruction's answer when that is fatal. -/
theorem reservedAndStopAreFatal : Obligations.ReservedAndStopAreFatal := by
  intro s
  have hexec : ∀ op ∈ fatalBytes, ∀ b1 b2, exec (decodeBytes op b1 b2) s = .fault (.reservedOpcode op) :=
    fun op hop b1 b2 => exec_of_fatalOpcode (by rw [fatalOpcode_decodeBytes, if_pos hop]) s
  refine ⟨fun op hop => ⟨hexec op hop, fun hrun hawake hpc => ?_⟩, fun op b1 b2 x hop => ?_⟩
  · rw [step, hrun, cpuStep, hawake, fetchInstr, hpc]
    exact congrArg afterCpu (hexec op hop _ _)
  · exact exec_notReserved (by rw [fatalOpcode_decodeBytes]; exact if_neg hop) s x

end Sys2Proof.Proofs.Encoding
end

section
/-! PROOF. The statements about the 8-bit loads (spec 40_load8.md): the loads from registers, immediates and memory, and
the byte stores. -/

namespace Sys2Proof.Proofs.Load8

open Sys2Proof Sys2Proof.Machine Sys2Proof.Safety Sys2Proof.Laws Sys2Proof.Proofs.MemoryMap Sys2Proof.Proofs.Encoding

/-! ### The families by their fields (R144, R153) -/

theorem exec_ldRegReg (dst src : Reg) (s : State) : exec (Instr.ldRegReg dst src) s = ldRegReg dst src s := by
  cases dst <;> cases src <;> rfl

theorem exec_ldRegImm (dst : Reg) (n : Byte) (s : State) : exec (Instr.ldRegImm dst n) s = ldRegImm dst n s := by
  cases dst <;> rfl

theorem exec_ldRegMem (dst : Reg) (s : State) : exec (Instr.ldRegMem dst) s = ldRegMem dst s := by cases dst <;> rfl

theorem exec_ldMemReg (src : Reg) (s : State) : exec (Instr.ldMemReg src) s = ldMemReg src s := by cases src <;> rfl

/-! ### The last page of the bus (R146) -/

theorem toNat_lastPage (n : Byte) : (0xFF00 + n.setWidth 16 : Word).toNat = 0xFF00 + n.toNat := by bv_omega

theorem highPage_eq (n : Byte) : highPage n = 0xFF00 + n.setWidth 16 := by
  apply BitVec.eq_of_toNat_eq
  rw [toNat_lastPage, highPage, joinBytes, BitVec.toNat_append, ← Nat.shiftLeft_add_eq_or_of_lt n.isLt]
  rfl

/-- The last page is above the ROM range, where no write is a bank command (R99). -/
theorem isBankCommand_highPage (n : Byte) : isBankCommand (highPage n) = false := by
  rw [isBankCommand, highPage_eq, toNat_lastPage]
  exact decide_eq_false (by omega)

/-! ### The loads -/

/-- Settles O9: the meanings only replace the CPU. -/
theorem loadRegister : Obligations.LoadRegister := fun dst src n s =>
  ⟨cpuOnly_of_exec (exec_ldRegReg dst src s), cpuOnly_of_exec (exec_ldRegImm dst n s)⟩

/-- Settles O10: each load reads the bus in the state before it and then only replaces the CPU. -/
theorem loadFromMemory : Obligations.LoadFromMemory := by
  intro dst n nn s
  rw [← highPage_eq, ← highPage_eq, BitVec.sub_eq_add_neg]
  exact ⟨cpuOnly_of_exec (exec_ldRegMem dst s), cpuOnly_of_exec rfl, cpuOnly_of_exec rfl, cpuOnly_of_exec rfl,
    cpuOnly_of_exec rfl, cpuOnly_of_exec rfl, cpuOnly_of_exec rfl, cpuOnly_of_exec rfl⟩

/-! ### The stores -/

theorem storesByte_of_storeByte {i : Instr} {s : State} {a len : Word} {v : Byte} {m : Nat}
    (h : exec i s = storeByte a v len m s) : StoresByte i s a v (retired s.cpu len m) :=
  storesByte_intro (·.retire len m) h

/-- HL moves after the write, which leaves it alone (R186, R188). -/
theorem storesByte_of_storeAStep {i : Instr} {s : State} {delta : Word} (h : exec i s = storeAStep delta s) :
    StoresByte i s s.cpu.hl s.cpu.a (retired (s.cpu.setHl (s.cpu.hl + delta)) 1 2) :=
  storesByte_intro (fun k => (k.setHl (k.hl + delta)).retire 1 2) h

/-- Settles O11: each store is one bus write and a change of the CPU, and the last page takes no bank command. -/
theorem storeByteForms : Obligations.StoreByteForms := by
  intro src n nn s
  rw [← highPage_eq, ← highPage_eq, BitVec.sub_eq_add_neg]
  exact ⟨storesByte_of_storeByte (exec_ldMemReg src s), storesByte_of_storeByte rfl, storesByte_of_storeByte rfl,
    storesByte_of_storeByte rfl, storesByte_of_storeByte rfl, storesByte_of_storeByte rfl, storesByte_of_storeByte rfl,
    storesByte_of_storeAStep rfl, storesByte_of_storeAStep rfl,
    rejectedBank_above_rom (isBankCommand_highPage n)⟩

end Sys2Proof.Proofs.Load8
end

section
/-! PROOF. The statements about the 16-bit loads and the stack (spec 41_load16_stack.md): the pair loads, the store of
SP, and the pops. -/

namespace Sys2Proof.Proofs.Load16

open Sys2Proof Sys2Proof.Machine Sys2Proof.Safety Sys2Proof.Laws Sys2Proof.Proofs.Encoding

theorem exec_ldPairImm (p : Pair) (nn : Word) (s : State) : exec (Instr.ldPairImm p nn) s = ldPairImm p nn s := by
  cases p <;> rfl

/-- Settles O12: the meanings only replace the CPU. -/
theorem loadPair : Obligations.LoadPair := fun p nn s =>
  ⟨cpuOnly_of_exec (exec_ldPairImm p nn s), cpuOnly_of_exec rfl⟩

/-- Settles O14: the instruction is one two-byte bus write followed by the retirement. -/
theorem storeStackPointer : Obligations.StoreStackPointer := fun _ _ => storesWord_intro (·.retire 3 5) rfl

/-- The bits of F, from bit 0 on: a zero nibble, then C, H, N, Z (R33). -/
theorem getLsbD_toByte (f : Flags) (i : Fin 8) :
    f.toByte.getLsbD i = [false, false, false, false, f.c, f.h, f.n, f.z][i] := by
  have h : ∀ z n h c : Bool, ∀ i : Fin 8,
      (Flags.mk z n h c).toByte.getLsbD i = [false, false, false, false, c, h, n, z][i] := by decide
  exact h f.z f.n f.h f.c i

/-- F keeps bits 7 to 4 of the byte it is written with (R33, R206). -/
theorem toByte_ofByte (v : Byte) : (Flags.ofByte v).toByte = v &&& 0xF0 := by
  have hbit (i : Fin 8) : (Flags.ofByte v).toByte.getLsbD i = (v &&& 0xF0).getLsbD i := by
    rw [getLsbD_toByte, BitVec.getLsbD_and]
    fin_cases i <;> simp [Flags.ofByte]
  exact BitVec.eq_of_getLsbD_eq fun i hi => hbit ⟨i, hi⟩

theorem hiByte_popWord (s : State) : hiByte (popWord s) = memRead s (s.cpu.sp + 1) := hiByte_joinBytes _ _

theorem loByte_popWord (s : State) : loByte (popWord s) = memRead s s.cpu.sp := loByte_joinBytes _ _

/-- Settles O16: the two bytes are the halves of the word on top of the stack, which the meanings write to the pair;
AF keeps four bits of the low half. -/
theorem popLoadsThePair : Obligations.PopLoadsThePair := by
  intro s
  simp only [← hiByte_popWord, ← loByte_popWord]
  exact ⟨cpuOnly_of_exec rfl, cpuOnly_of_exec rfl, cpuOnly_of_exec rfl, cpuOnly_of_exec rfl, toByte_ofByte _⟩

end Sys2Proof.Proofs.Load16
end


section
/-! PROOF. The statements about the 8-bit arithmetic and logic (spec 42_alu8.md): the ALU operations in their three
operand forms, the increments and decrements, the instructions on A and F alone, and decimal arithmetic. -/

namespace Sys2Proof.Proofs.Alu8

open Sys2Proof Sys2Proof.Machine Sys2Proof.Safety Sys2Proof.Laws Sys2Proof.Proofs.Encoding

/-! ### The families by their fields (R144, R153) -/

theorem exec_aluReg (op : AluOp) (r : Reg) (s : State) : exec (Instr.aluReg op r) s = aluReg op r s := by
  cases op <;> cases r <;> rfl

theorem exec_aluMem (op : AluOp) (s : State) : exec (Instr.aluMem op) s = aluMem op s := by cases op <;> rfl

theorem exec_aluImm (op : AluOp) (n : Byte) (s : State) : exec (Instr.aluImm op n) s = aluImm op n s := by
  cases op <;> rfl

theorem exec_incReg (r : Reg) (s : State) : exec (Instr.incReg r) s = incReg r s := by cases r <;> rfl

theorem exec_decReg (r : Reg) (s : State) : exec (Instr.decReg r) s = decReg r s := by cases r <;> rfl

/-- What a row of R220 does to the CPU, as a function of its operand, gives its register, memory and immediate forms. -/
theorem cpuOnly_aluForms {op : AluOp} {s : State} {g : Byte → Cpu} (h : ∀ v, s.cpu.alu op v = g v) (r : Reg)
    (n : Byte) :
    CpuOnly (Instr.aluReg op r) s (retired (g (s.cpu.reg r)) 1 1) ∧
      CpuOnly (Instr.aluMem op) s (retired (g (memRead s s.cpu.hl)) 1 2) ∧
      CpuOnly (Instr.aluImm op n) s (retired (g n) 2 2) := by
  simp only [← h]
  exact ⟨cpuOnly_of_exec (exec_aluReg op r s), cpuOnly_of_exec (exec_aluMem op s),
    cpuOnly_of_exec (exec_aluImm op n s)⟩

/-! ### Carries, borrows and zero in numbers (R18) -/

theorem toNat_lowNibble (v : Byte) : (v &&& 0x0F).toNat = v.toNat % 16 := Nat.and_two_pow_sub_one_eq_mod v.toNat 4

theorem half8_of_nibbles (a v : Byte) (c : Bool) :
    half8 a v c = decide (a.toNat % 16 + v.toNat % 16 + c.toNat > 15) := by
  rw [half8, toNat_lowNibble, toNat_lowNibble]

theorem hborrow8_of_nibbles (a v : Byte) (c : Bool) :
    hborrow8 a v c = decide (a.toNat % 16 < v.toNat % 16 + c.toNat) := by
  rw [hborrow8, toNat_lowNibble, toNat_lowNibble]

theorem carryByte_eq_ofNat (c : Bool) : carryByte c = BitVec.ofNat 8 c.toNat := by cases c <;> rfl

theorem ofNat_eq_zero_iff (n : Nat) : BitVec.ofNat 8 n = 0 ↔ n % 256 = 0 := BitVec.toNat_eq

/-! ### Addition -/

theorem add_carryByte (a v : Byte) (c : Bool) : a + v + carryByte c = BitVec.ofNat 8 (a.toNat + v.toNat + c.toNat) := by
  simp [carryByte_eq_ofNat, BitVec.ofNat_add]

/-- ADD is ADC with the carry clear (R221, R224). -/
theorem aluResult_add (a v : Byte) (c : Bool) : aluResult .add a v c = aluResult .adc a v false := by
  simp [aluResult, carryByte]

theorem setAF_adc (k : Cpu) (v : Byte) (c : Bool) : k.setAF (aluResult .adc k.a v c) = sumOf k v c.toNat := by
  simp only [aluResult, add_carryByte, ofNat_eq_zero_iff, half8_of_nibbles, carry8]
  rfl

theorem alu_add (k : Cpu) (v : Byte) : k.alu .add v = sumOf k v 0 := by
  rw [Cpu.alu, aluResult_add]
  exact setAF_adc k v false

/-- Settles O18: ADC's row in numbers, of which ADD's is the case of no carry, in the three operand forms. -/
theorem addAndAddWithCarry : Obligations.AddAndAddWithCarry := by
  intro r n s
  obtain ⟨hreg, hmem, himm⟩ := cpuOnly_aluForms (alu_add s.cpu) r n
  exact ⟨hreg, hmem, himm, cpuOnly_aluForms (fun v => setAF_adc s.cpu v s.cpu.f.c) r n⟩

/-! ### Subtraction and comparison -/

theorem sub_carryByte (a v : Byte) (c : Bool) :
    a - v - carryByte c = BitVec.ofInt 8 ((a.toNat : Int) - v.toNat - c.toNat) := by
  rw [carryByte_eq_ofNat]
  bv_omega

/-- The difference is taken from A moved up by two turns, which keeps it a natural number. -/
theorem sub_carryByte_eq_zero_iff (a v : Byte) (c : Bool) :
    a - v - carryByte c = 0 ↔ (a.toNat + 512 - v.toNat - c.toNat) % 256 = 0 := by
  have hc : c.toNat % 256 = c.toNat := by cases c <;> rfl
  rw [carryByte_eq_ofNat]
  bv_omega

/-- SUB is SBC with the carry clear (R227, R230). -/
theorem aluResult_sub (a v : Byte) (c : Bool) : aluResult .sub a v c = aluResult .sbc a v false := by
  simp [aluResult, carryByte]

theorem aluResult_sbc (a v : Byte) (c : Bool) :
    aluResult .sbc a v c =
      (BitVec.ofInt 8 ((a.toNat : Int) - v.toNat - c.toNat), differenceFlags a.toNat v.toNat c.toNat) := by
  simp only [aluResult, sub_carryByte_eq_zero_iff, hborrow8_of_nibbles, borrow8, differenceFlags]
  rw [sub_carryByte]

theorem alu_sbc (k : Cpu) (v : Byte) : k.alu .sbc v = differenceOf k v k.f.c.toNat := by
  rw [Cpu.alu, aluResult_sbc]
  rfl

theorem alu_sub (k : Cpu) (v : Byte) : k.alu .sub v = differenceOf k v 0 := by
  rw [Cpu.alu, aluResult_sub, aluResult_sbc]
  rfl

/-- CP takes SUB's flags and keeps A (R242). -/
theorem alu_cp (k : Cpu) (v : Byte) : k.alu .cp v = { k with f := differenceFlags k.a.toNat v.toNat 0 } := by
  have hcp : aluResult .cp k.a v k.f.c = (k.a, (aluResult .sub k.a v k.f.c).2) := rfl
  rw [Cpu.alu, hcp, aluResult_sub, aluResult_sbc]
  rfl

/-- Settles O19: SBC's row in numbers, of which SUB's is the case of no carry, in the three operand forms. -/
theorem subtractAndSubtractWithCarry : Obligations.SubtractAndSubtractWithCarry := by
  intro r n s
  obtain ⟨hreg, hmem, himm⟩ := cpuOnly_aluForms (alu_sub s.cpu) r n
  exact ⟨hreg, hmem, himm, cpuOnly_aluForms (alu_sbc s.cpu) r n⟩

theorem differenceFlags_z (a v : Byte) : (differenceFlags a.toNat v.toNat 0).z = decide (a = v) := by
  have h : (a.toNat + 512 - v.toNat - 0) % 256 = 0 ↔ a = v := by bv_omega
  exact decide_eq_decide.mpr h

/-- Settles O21: SUB's flags beside the old A, which say how A and the operand compare. -/
theorem compare : Obligations.Compare := by
  intro r n s compared
  obtain ⟨hreg, hmem, himm⟩ := cpuOnly_aluForms (alu_cp s.cpu) r n
  exact ⟨hreg, hmem, himm, fun v => ⟨differenceFlags_z s.cpu.a v, rfl⟩⟩

/-! ### Logic -/

/-- Settles O20: the rows of the table are the statement's as they stand. -/
theorem logicOperations : Obligations.LogicOperations := by
  intro r n s
  obtain ⟨handReg, handMem, handImm⟩ := cpuOnly_aluForms (op := .and) (fun v => rfl) r n
  obtain ⟨hxorReg, hxorMem, hxorImm⟩ := cpuOnly_aluForms (op := .xor) (fun v => rfl) r n
  exact ⟨handReg, handMem, handImm, hxorReg, hxorMem, hxorImm, cpuOnly_aluForms (op := .or) (fun v => rfl) r n⟩

/-! ### Increment and decrement -/

theorem add_one_eq_ofNat (v : Byte) : v + 1 = BitVec.ofNat 8 (v.toNat + 1) := by bv_omega

theorem sub_one_eq_ofNat (v : Byte) : v - 1 = BitVec.ofNat 8 (v.toNat + 255) := by bv_omega

theorem incFlags_eq (f : Flags) (v : Byte) :
    incFlags f v = { z := decide (v.toNat = 255), n := false, h := decide (v.toNat % 16 = 15), c := f.c } := by
  have hz : v + 1 = 0 ↔ v.toNat = 255 := by bv_omega
  have hh : v &&& 0x0F = 0x0F ↔ v.toNat % 16 = 15 := by rw [BitVec.toNat_eq, toNat_lowNibble]; rfl
  simp only [incFlags, hz, hh]

theorem decFlags_eq (f : Flags) (v : Byte) :
    decFlags f v = { z := decide (v.toNat = 1), n := true, h := decide (v.toNat % 16 = 0), c := f.c } := by
  have hz : v - 1 = 0 ↔ v.toNat = 1 := by bv_omega
  have hh : v &&& 0x0F = 0x00 ↔ v.toNat % 16 = 0 := by rw [BitVec.toNat_eq, toNat_lowNibble]; rfl
  simp only [decFlags, hz, hh]

/-- Settles O22: the new byte and the flags of the meanings, in numbers. -/
theorem incrementDecrementRegister : Obligations.IncrementDecrementRegister := by
  intro r s v up down
  refine ⟨cpuOnly_of_exec ?_, cpuOnly_of_exec ?_⟩
  · rw [exec_incReg, incReg, incFlags_eq, add_one_eq_ofNat]
    rfl
  · rw [exec_decReg, decReg, decFlags_eq, sub_one_eq_ofNat]
    rfl

theorem storesByte_of_modifyMem {i : Instr} {s : State} {v : Byte} {f : Flags} {len : Word} {m : Nat}
    (h : exec i s = modifyMem v f len m s) : StoresByte i s s.cpu.hl v (retired { s.cpu with f := f } len m) :=
  storesByte_intro (fun k => ({ k with f := f } : Cpu).retire len m) h

/-- Settles O23: each is one bus write to HL, with the byte and the flags of the register forms. -/
theorem incrementDecrementMemory : Obligations.IncrementDecrementMemory := by
  intro s v up down
  have hup : up = incFlags s.cpu.f (memRead s s.cpu.hl) := (incFlags_eq _ _).symm
  have hdown : down = decFlags s.cpu.f (memRead s s.cpu.hl) := (decFlags_eq _ _).symm
  rw [hup, hdown, ← add_one_eq_ofNat, ← sub_one_eq_ofNat]
  exact ⟨storesByte_of_modifyMem rfl, storesByte_of_modifyMem rfl⟩

/-! ### The instructions on A and F alone -/

/-- Settles O26: the meanings replace A and F as the statement says. -/
theorem complementAndCarry : Obligations.ComplementAndCarry := fun _ =>
  ⟨cpuOnly_of_exec rfl, cpuOnly_of_exec rfl, cpuOnly_of_exec rfl⟩

/-! ### Decimal adjustment (R249) -/

theorem ofNat_mod (n : Nat) : BitVec.ofNat 8 (n % 256) = BitVec.ofNat 8 n := BitVec.eq_of_toNat_eq (Nat.mod_mod n 256)

/-- The corrections of the two digits share no bit, so that joining them adds them. -/
theorem correction_eq_ofNat (low high : Bool) :
    ((if low then 0x06 else 0x00) ||| (if high then 0x60 else 0x00) : Byte) =
      BitVec.ofNat 8 ((if low then 0x06 else 0x00) + (if high then 0x60 else 0x00)) := by
  cases low <;> cases high <;> rfl

theorem daaAfterAdd_eq (a : Byte) (h c : Bool) :
    daaAfterAdd a h c =
      (BitVec.ofNat 8
          (a.toNat + (if h = true ∨ a.toNat % 16 > 9 then 0x06 else 0x00) +
            (if c = true ∨ a.toNat > 0x99 then 0x60 else 0x00)),
        decide (c = true ∨ a.toNat > 0x99)) := by
  rw [daaAfterAdd, correction_eq_ofNat, Nat.add_assoc, BitVec.ofNat_add a.toNat, BitVec.ofNat_toNat, BitVec.setWidth_eq]
  simp only [toNat_lowNibble, Bool.or_eq_true, decide_eq_true_eq, Bool.decide_or, Bool.decide_eq_true]

theorem sub_ofNat_eq_ofNat (a : Byte) {n : Nat} (h : n ≤ 512) :
    a - BitVec.ofNat 8 n = BitVec.ofNat 8 (a.toNat + 512 - n) := by bv_omega

theorem daaAfterSub_eq (a : Byte) (h c : Bool) :
    daaAfterSub a h c =
      (BitVec.ofNat 8 (a.toNat + 512 - (if h = true then 0x06 else 0x00) - (if c = true then 0x60 else 0x00)), c) := by
  have hle : (if h = true then 0x06 else 0x00) + (if c = true then 0x60 else 0x00) ≤ 512 := by split_ifs <;> omega
  rw [daaAfterSub, correction_eq_ofNat, sub_ofNat_eq_ofNat a hle, Nat.sub_sub]

theorem setAF_daaResult (k : Cpu) : k.setAF (daaResult k.a k.f) = decimalAdjusted k := by
  unfold daaResult decimalAdjusted
  cases k.f.n with
  | false =>
    simp only [daaAfterAdd_eq, Bool.false_eq_true, if_false, ofNat_eq_zero_iff]
    simp [Cpu.setAF, ofNat_mod]
  | true =>
    simp only [daaAfterSub_eq, if_true, ofNat_eq_zero_iff]
    simp [Cpu.setAF, ofNat_mod]

/-- Settles O24: the meaning replaces A and F by the adjusted ones, which both branches of the rule give in numbers. -/
theorem decimalAdjust : Obligations.DecimalAdjust := fun s =>
  setAF_daaResult s.cpu ▸ cpuOnly_of_exec (i := .daa) rfl

/-! ### Decimal arithmetic -/

/-- DAA after an instruction that only replaces the CPU. -/
theorem exec_then_daa {i : Instr} {s : State} {k : Cpu} (h : CpuOnly i s k) :
    ∃ t u, exec i s = .next t ∧ exec .daa t = .next u ∧ u.cpu = retired (decimalAdjusted k) 1 1 := by
  obtain ⟨hexec, -⟩ := h
  obtain ⟨hdaa, -⟩ := decimalAdjust (s.withCpu k)
  exact ⟨_, _, hexec, hdaa, rfl⟩

theorem toNat_bcd {n : Nat} (h : n < 100) : (bcd n).toNat = 16 * (n / 10) + n % 10 := by
  rw [bcd, BitVec.toNat_ofNat]
  omega

/-- The number of which a byte is the BCD, from the byte's two digits. -/
theorem ofNat_eq_bcd {m n d e : Nat} (hn : n = 10 * d + e) (he : e < 10) (hm : m % 256 = 16 * d + e) :
    BitVec.ofNat 8 m = bcd n := by
  apply BitVec.eq_of_toNat_eq
  rw [bcd, BitVec.toNat_ofNat, BitVec.toNat_ofNat]
  omega

section DecimalSum

/-! Two BCD bytes and a carry in, the tens adding up to `t` and the units with the carry to `w`. -/

variable {t w : Nat} (ht : t ≤ 18) (hw : w ≤ 19)
include hw

/-- The half carry and DAA's test of the low nibble together say that the units carry. -/
theorem sum_units_carry_iff : w > 15 ∨ (16 * t + w) % 256 % 16 > 9 ↔ w > 9 := by omega

include ht

/-- The carry and DAA's test of A together say that the sum reaches 100. -/
theorem sum_reaches_hundred_iff : 16 * t + w > 255 ∨ (16 * t + w) % 256 > 0x99 ↔ 10 * t + w ≥ 100 := by omega

theorem sum_corrected_eq_bcd :
    BitVec.ofNat 8 ((16 * t + w) % 256 + (if w > 9 then 0x06 else 0x00) + (if 10 * t + w ≥ 100 then 0x60 else 0x00)) =
      bcd ((10 * t + w) % 100) := by
  apply ofNat_eq_bcd (d := (t + w / 10) % 10) (e := w % 10) (by omega) (by omega)
  split_ifs <;> omega

theorem decimalAdjusted_sumOf {k : Cpu} {v : Byte} {c : Nat} (hbytes : k.a.toNat + v.toNat + c = 16 * t + w)
    (hunits : k.a.toNat % 16 + v.toNat % 16 + c = w) :
    (decimalAdjusted (sumOf k v c)).a = bcd ((10 * t + w) % 100) ∧
      (decimalAdjusted (sumOf k v c)).f.c = decide (10 * t + w ≥ 100) := by
  simp only [decimalAdjusted, sumOf, hbytes, hunits, BitVec.toNat_ofNat, decide_eq_true_eq, true_and,
    sum_units_carry_iff hw, sum_reaches_hundred_iff ht hw, ofNat_mod, Bool.false_eq_true, if_false]
  exact ⟨sum_corrected_eq_bcd ht hw, by simp⟩

end DecimalSum

section DecimalDifference

/-! Two BCD bytes and a borrow in, the tens differing by `t - 10` and the units, with the borrow, by `w - 10`. -/

variable {t w : Nat} (htl : 1 ≤ t) (ht : t ≤ 19) (hw : w ≤ 19)
include htl ht hw

theorem difference_corrected_eq_bcd :
    BitVec.ofNat 8
        ((16 * t + w + 342) % 256 + 512 - (if w < 10 then 0x06 else 0x00) - (if 10 * t + w < 110 then 0x60 else 0x00)) =
      bcd ((10 * t + w + 90) % 100) := by
  apply ofNat_eq_bcd (d := (t + w / 10 + 9) % 10) (e := w % 10) (by omega) (by omega)
  split_ifs <;> omega

theorem decimalAdjusted_differenceOf {k : Cpu} {v : Byte} {c : Nat}
    (hbytes : k.a.toNat + 170 = 16 * t + w + v.toNat + c)
    (hunits : k.a.toNat % 16 + 10 = w + v.toNat % 16 + c) :
    (decimalAdjusted (differenceOf k v c)).a = bcd ((10 * t + w + 90) % 100) ∧
      (decimalAdjusted (differenceOf k v c)).f.c = decide (10 * t + w < 110) := by
  have ha : (BitVec.ofInt 8 ((k.a.toNat : Int) - v.toNat - c)).toNat = (16 * t + w + 342) % 256 := by
    rw [BitVec.toNat_ofInt]; omega
  have hlow : k.a.toNat % 16 < v.toNat % 16 + c ↔ w < 10 := by omega
  have hhigh : k.a.toNat < v.toNat + c ↔ 10 * t + w < 110 := by omega
  simp only [decimalAdjusted, differenceOf, differenceFlags, ha, hlow, hhigh, decide_eq_true_eq,
    ofNat_mod, if_true, Bool.true_eq_false, false_and, or_false]
  exact ⟨difference_corrected_eq_bcd htl ht hw, by simp⟩

end DecimalDifference

/-- Settles O25: the operation adds or subtracts the BCD bytes nibble by nibble, and DAA corrects the digits. -/
theorem decimalArithmetic : Obligations.DecimalArithmetic := by
  intro s x y hx hy ha hb
  have hc : s.cpu.f.c.toNat < 2 := s.cpu.f.c.toNat_lt
  have hA : s.cpu.a.toNat = 16 * (x / 10) + x % 10 := ha ▸ toNat_bcd hx
  have hB : (s.cpu.reg .b).toNat = 16 * (y / 10) + y % 10 := (congrArg BitVec.toNat hb).trans (toNat_bcd hy)
  constructor
  · obtain ⟨-, -, -, hadc, -, -⟩ := addAndAddWithCarry .b 0 s
    obtain ⟨t, u, ht, hu, hcpu⟩ := exec_then_daa hadc
    have hdigits : x + y + s.cpu.f.c.toNat = 10 * (x / 10 + y / 10) + (x % 10 + y % 10 + s.cpu.f.c.toNat) := by omega
    refine ⟨t, u, ht, hu, ?_⟩
    rw [hcpu, hdigits]
    exact decimalAdjusted_sumOf (by omega) (by omega) (by omega) (by omega)
  · obtain ⟨-, -, -, hsbc, -, -⟩ := subtractAndSubtractWithCarry .b 0 s
    obtain ⟨t, u, ht, hu, hcpu⟩ := exec_then_daa hsbc
    have hdigits : x + 200 - y - s.cpu.f.c.toNat =
        10 * (x / 10 + 10 - y / 10) + (x % 10 + 10 - y % 10 - s.cpu.f.c.toNat) + 90 := by omega
    have hnegative : x < y + s.cpu.f.c.toNat ↔
        10 * (x / 10 + 10 - y / 10) + (x % 10 + 10 - y % 10 - s.cpu.f.c.toNat) < 110 := by omega
    refine ⟨t, u, ht, hu, ?_⟩
    rw [hcpu, hdigits, decide_eq_decide.mpr hnegative]
    exact decimalAdjusted_differenceOf (by omega) (by omega) (by omega) (by omega) (by omega)

end Sys2Proof.Proofs.Alu8
end

section
/-! PROOF. The statements about the 16-bit arithmetic (spec 43_alu16.md): the increments and decrements of the pairs. -/

namespace Sys2Proof.Proofs.Alu16

open Sys2Proof Sys2Proof.Machine Sys2Proof.Safety Sys2Proof.Laws Sys2Proof.Proofs.Encoding

/-! ### The families by their fields (R144, R153) -/

theorem exec_incPair (p : Pair) (s : State) : exec (Instr.incPair p) s = stepPair p 1 s := by cases p <;> rfl

theorem exec_decPair (p : Pair) (s : State) : exec (Instr.decPair p) s = stepPair p (-1) s := by cases p <;> rfl

/-! ### Increment and decrement -/

/-- The shared meaning in numbers: the pair moves by `n` modulo 2^16 and F is left alone. -/
theorem cpuOnly_of_stepPair {i : Instr} {p : Pair} {delta : Word} {s : State} {n : Nat} (hn : delta.toNat = n)
    (h : exec i s = stepPair p delta s) :
    CpuOnly i s (retired (s.cpu.setPair p (BitVec.ofNat 16 ((s.cpu.pair p).toNat + n))) 1 2) := by
  rw [← hn, ← BitVec.add_def]
  exact cpuOnly_of_exec h

/-- Settles O27: both are the pair's step, by 1 and by -1, which is 65535 modulo 2^16. -/
theorem incrementDecrementPair : Obligations.IncrementDecrementPair := fun p s =>
  ⟨cpuOnly_of_stepPair (by decide) (exec_incPair p s), cpuOnly_of_stepPair (by decide) (exec_decPair p s)⟩

end Sys2Proof.Proofs.Alu16
end

section
/-! PROOF. The statements about the rotates, shifts, swaps and bit instructions (spec 44_rotate_shift_bit.md), on the
accumulator, on a register and on the byte at HL. -/

namespace Sys2Proof.Proofs.RotateShiftBit

open Sys2Proof Sys2Proof.Machine Sys2Proof.Safety Sys2Proof.Laws Sys2Proof.Proofs.MemoryMap Sys2Proof.Proofs.Encoding
  Sys2Proof.Proofs.Alu8

/-! ### The families by their fields (R144, R154) -/

theorem exec_rotReg (op : RotOp) (r : Reg) (s : State) : exec (Instr.rotReg op r) s = rotReg op r s := by
  cases op <;> cases r <;> rfl

theorem exec_rotMem (op : RotOp) (s : State) : exec (Instr.rotMem op) s = rotMem op s := by cases op <;> rfl

theorem exec_bitReg (b : Fin 8) (r : Reg) (s : State) : exec (Instr.bitReg b r) s = bitReg b r s := by
  fin_cases b <;> cases r <;> rfl

theorem exec_bitMem (b : Fin 8) (s : State) : exec (Instr.bitMem b) s = bitMem b s := by fin_cases b <;> rfl

theorem exec_resReg (b : Fin 8) (r : Reg) (s : State) : exec (Instr.resReg b r) s = resReg b r s := by
  fin_cases b <;> cases r <;> rfl

theorem exec_resMem (b : Fin 8) (s : State) : exec (Instr.resMem b) s = resMem b s := by fin_cases b <;> rfl

theorem exec_setReg (b : Fin 8) (r : Reg) (s : State) : exec (Instr.setReg b r) s = setReg b r s := by
  fin_cases b <;> cases r <;> rfl

theorem exec_setMem (b : Fin 8) (s : State) : exec (Instr.setMem b) s = setMem b s := by fin_cases b <;> rfl

/-! ### The rows of R270 in numbers -/

/-- What is shifted up and what is put into the `k` places below share no bit, so that their union is their sum. -/
theorem toNat_shiftLeft_or {k : Nat} (hk : k ≤ 8) (high : Byte) {low : Byte} (h : low.toNat < 2 ^ k) :
    (high <<< k ||| low).toNat = 2 ^ k * high.toNat % 256 + low.toNat := by
  have hmul : 2 ^ k * high.toNat % 256 = 2 ^ k * (high.toNat % 2 ^ (8 - k)) := by
    rw [← Nat.mul_mod_mul_left, ← Nat.pow_add, Nat.add_sub_cancel' hk]
  rw [BitVec.toNat_or, BitVec.toNat_shiftLeft, Nat.shiftLeft_eq, Nat.mul_comm high.toNat, hmul,
    Nat.two_pow_add_eq_or_of_lt h]

theorem toNat_shiftRight (v : Byte) (k : Nat) : (v >>> k).toNat = v.toNat / 2 ^ k := by
  rw [BitVec.toNat_ushiftRight, Nat.shiftRight_eq_div_pow]

theorem toNat_rotateLeft {k : Nat} (hk : k < 8) (v : Byte) :
    (v.rotateLeft k).toNat = 2 ^ k * v.toNat % 256 + v.toNat / 2 ^ (8 - k) := by
  have hlow : (v >>> (8 - k)).toNat < 2 ^ k := by
    rw [toNat_shiftRight, Nat.div_lt_iff_lt_mul (Nat.two_pow_pos _), ← Nat.pow_add, Nat.add_sub_cancel' hk.le]
    exact v.isLt
  rw [BitVec.rotateLeft_def, Nat.mod_eq_of_lt hk, toNat_shiftLeft_or hk.le v hlow, toNat_shiftRight]

/-- Rotating one place down is rotating seven places up. -/
theorem rotateRight_one (v : Byte) : v.rotateRight 1 = v.rotateLeft 7 := BitVec.or_comm _ _

theorem toNat_carryByte (c : Bool) : (carryByte c).toNat = c.toNat := by cases c <;> rfl

/-- RL: the carry comes in at the bottom. -/
theorem toNat_shiftLeft_or_carryByte (v : Byte) (c : Bool) :
    ((v <<< 1) ||| carryByte c).toNat = 2 * v.toNat % 256 + c.toNat := by
  have hlow : (carryByte c).toNat < 2 ^ 1 := by rw [toNat_carryByte]; exact Bool.toNat_lt c
  rw [toNat_shiftLeft_or (by decide) v hlow, toNat_carryByte, Nat.pow_one]

/-- RR: the carry comes in at the top. -/
theorem toNat_shiftRight_or_carryByte (v : Byte) (c : Bool) :
    ((v >>> 1) ||| (carryByte c <<< 7)).toNat = v.toNat / 2 + 128 * c.toNat := by
  have hlow : (v >>> 1).toNat < 2 ^ 7 := by rw [toNat_shiftRight]; omega
  have hc := Bool.toNat_lt c
  rw [BitVec.or_comm, toNat_shiftLeft_or (by decide) (carryByte c) hlow, toNat_carryByte, toNat_shiftRight]
  omega

/-- SRA: the top bit stays. -/
theorem toNat_sshiftRight_one (v : Byte) : (v.sshiftRight 1).toNat = v.toNat / 2 + 128 * (v.toNat / 128) := by
  rw [BitVec.toNat_sshiftRight, BitVec.msb_eq_decide]
  simp only [decide_eq_true_eq, Nat.shiftRight_eq_div_pow]
  split <;> omega

theorem toNat_rotResult (op : RotOp) (v : Byte) (c : Bool) :
    (rotResult op v c).1.toNat = (rotated op v.toNat c.toNat).1 := by
  have hv := v.isLt
  have hc := Bool.toNat_lt c
  cases op <;> dsimp only [rotResult, rotated]
  case rlc => rw [toNat_rotateLeft (by decide)]; omega
  case rrc => rw [rotateRight_one, toNat_rotateLeft (by decide)]; omega
  case rl => rw [toNat_shiftLeft_or_carryByte]; omega
  case rr => exact toNat_shiftRight_or_carryByte v c
  case sla => rw [BitVec.toNat_shiftLeft, Nat.shiftLeft_eq]; omega
  case sra => exact toNat_sshiftRight_one v
  case swap => rw [toNat_rotateLeft (by decide)]; omega
  case srl => exact toNat_shiftRight v 1

theorem rotResult_carry (op : RotOp) (v : Byte) (c : Bool) :
    (rotResult op v c).2 = (rotated op v.toNat c.toNat).2 := by
  have hhigh : v.getLsbD 7 = decide (v.toNat ≥ 128) := by
    rw [getLsbD_eq_digit v (by decide), decide_eq_decide]
    omega
  cases op with
  | rlc | rl | sla => exact hhigh
  | rrc | rr | sra | srl => exact getLsbD_zero v
  | swap => rfl

theorem rotatedByte_eq (op : RotOp) (v : Byte) (c : Bool) : rotatedByte op v c = (rotResult op v c).1 := by
  rw [rotatedByte, ← toNat_rotResult, BitVec.ofNat_toNat, BitVec.setWidth_eq]

theorem rotatedFlags_eq (op : RotOp) (v : Byte) (c : Bool) :
    rotatedFlags op v c = rotFlags (rotResult op v c).1 (rotResult op v c).2 := by
  have hz : (rotResult op v c).1 = 0 ↔ (rotated op v.toNat c.toNat).1 = 0 := by
    rw [← toNat_rotResult]
    exact BitVec.toNat_eq
  simp only [rotFlags, rotatedFlags, rotResult_carry, hz]

/-! ### Rotates and shifts -/

/-- Settles O28: each is its row of the table on A, with Z cleared. -/
theorem accumulatorRotates : Obligations.AccumulatorRotates := by
  intro s
  simp only [rotatedByte_eq, rotatedFlags_eq]
  exact ⟨cpuOnly_of_exec rfl, cpuOnly_of_exec rfl, cpuOnly_of_exec rfl, cpuOnly_of_exec rfl⟩

/-- Settles O29: the row of the table, in numbers. -/
theorem rotateRegister : Obligations.RotateRegister := by
  intro op r s
  rw [rotatedByte_eq, rotatedFlags_eq]
  exact cpuOnly_of_exec (exec_rotReg op r s)

/-- Settles O30: the row of the table, written to HL by one bus write. -/
theorem rotateMemory : Obligations.RotateMemory := by
  intro op s
  rw [rotatedByte_eq, rotatedFlags_eq]
  exact storesByte_of_modifyMem (exec_rotMem op s)

/-! ### The tested bit (R291) -/

theorem bitFlags_eq (f : Flags) (v : Byte) (b : Fin 8) :
    bitFlags f v b = { z := decide (bitOf v b = 0), n := false, h := true, c := f.c } := by
  have hz : (!v.getLsbD b.val) = decide (bitOf v b = 0) := by
    rw [getLsbD_eq_digit v b.isLt, ← decide_not, decide_eq_decide]
    exact Nat.mod_two_ne_one
  rw [bitFlags, hz]

/-- Settles O31: the flags in numbers; the meanings only replace the CPU. -/
theorem bitTest : Obligations.BitTest := by
  intro b r s tested
  have htested (v : Byte) : tested v = bitFlags s.cpu.f v b := (bitFlags_eq s.cpu.f v b).symm
  rw [htested, htested]
  exact ⟨cpuOnly_of_exec (exec_bitReg b r s), cpuOnly_of_exec (exec_bitMem b s)⟩

/-! ### A bit cleared or set (R293, R295) -/

/-- A byte is the sum of its parts off and on a mask, which share no bit. -/
theorem and_not_add_and (v m : Byte) : (v &&& ~~~m) + (v &&& m) = v := by
  rw [BitVec.add_eq_or_of_and_eq_zero] <;>
  · ext i
    cases hm : m[i] <;> simp [hm]

theorem and_not_add (v m : Byte) : (v &&& ~~~m) + m = v ||| m := by
  rw [BitVec.add_eq_or_of_and_eq_zero] <;>
  · ext i
    cases hm : m[i] <;> simp [hm]

theorem or_add_and (v m : Byte) : (v ||| m) + (v &&& m) = v + m := by
  rw [← and_not_add, BitVec.add_assoc, BitVec.add_comm m, ← BitVec.add_assoc, and_not_add_and]

theorem toNat_mask (b : Fin 8) : ((1 : Byte) <<< b.val).toNat = 2 ^ b.val := by fin_cases b <;> rfl

/-- The mask leaves the bit's weight, or nothing. -/
theorem toNat_and_mask (v : Byte) (b : Fin 8) : (v &&& (1 : Byte) <<< b.val).toNat = bitOf v b * 2 ^ b.val := by
  rw [BitVec.toNat_and, toNat_mask, Nat.and_two_pow, Nat.toNat_testBit, bitOf]

theorem clearBit_eq (v : Byte) (b : Fin 8) : clearBit v b = withoutBit v b := by
  have hsum : clearBit v b + (v &&& (1 : Byte) <<< b.val) = v := and_not_add_and v _
  have hle : (v &&& (1 : Byte) <<< b.val).toNat ≤ v.toNat := BitVec.toNat_and v _ ▸ Nat.and_le_left
  rw [withoutBit, ← toNat_and_mask]
  bv_omega

theorem assertBit_eq (v : Byte) (b : Fin 8) : assertBit v b = withBit v b := by
  have hsum : assertBit v b + (v &&& (1 : Byte) <<< b.val) = v + (1 : Byte) <<< b.val := or_add_and v _
  have hle : (v &&& (1 : Byte) <<< b.val).toNat ≤ ((1 : Byte) <<< b.val).toNat :=
    BitVec.toNat_and v _ ▸ Nat.and_le_right
  rw [withBit, Nat.sub_mul, Nat.one_mul, ← toNat_and_mask, ← toNat_mask]
  bv_omega

/-- Settles O32: the bit cleared or set, in numbers; the meanings only replace the CPU. -/
theorem resetSetRegister : Obligations.ResetSetRegister := by
  intro b r s
  rw [← clearBit_eq, ← assertBit_eq]
  exact ⟨cpuOnly_of_exec (exec_resReg b r s), cpuOnly_of_exec (exec_setReg b r s)⟩

/-- Settles O33: one bus write to HL, made whatever the bit was, with F as it was. -/
theorem resetSetMemory : Obligations.ResetSetMemory := by
  intro b s
  rw [← clearBit_eq, ← assertBit_eq]
  exact ⟨storesByte_of_modifyMem (exec_resMem b s), storesByte_of_modifyMem (exec_setMem b s)⟩

end Sys2Proof.Proofs.RotateShiftBit
end

section
/-! PROOF. The statements about the control transfers (spec 45_control.md) and the system instructions (spec
46_system.md): the jumps, calls and returns, that a return reverses a call, and NOP, HALT, DI, EI and RETI. -/

namespace Sys2Proof.Proofs.Control

open Sys2Proof Sys2Proof.Machine Sys2Proof.Safety Sys2Proof.Laws Sys2Proof.Proofs.MemoryMap Sys2Proof.Proofs.Encoding

/-! ### The families by their fields (R144, R153) -/

theorem exec_jpCond (cc : Cond) (nn : Word) (s : State) : exec (Instr.jpCond cc nn) s = jumpCond cc nn 3 3 4 s := by
  cases cc <;> rfl

theorem exec_jrCond (cc : Cond) (n : Byte) (s : State) :
    exec (Instr.jrCond cc n) s = jumpCond cc (relTarget n s) 2 2 3 s := by
  cases cc <;> rfl

theorem exec_callCond (cc : Cond) (nn : Word) (s : State) : exec (Instr.callCond cc nn) s = callCond cc nn s := by
  cases cc <;> rfl

theorem exec_retCond (cc : Cond) (s : State) : exec (Instr.retCond cc) s = retCond cc s := by cases cc <;> rfl

theorem exec_rst (r : Fin 8) (s : State) : exec (Instr.rst r) s = callTo (BitVec.ofNat 16 (8 * r.val)) 1 4 s := by
  fin_cases r <;> rfl

/-! ### The condition (R300) -/

theorem conditionHolds_iff (cc : Cond) (f : Flags) : conditionHolds cc f ↔ f.cond cc = true := by
  cases cc <;> simp [conditionHolds, Flags.cond]

section Condition

variable {cc : Cond} {s : State}

theorem jumpCond_of_holds (h : conditionHolds cc s.cpu.f) (w len : Word) (m taken : Nat) :
    jumpCond cc w len m taken s = jumpTo w taken s := if_pos ((conditionHolds_iff cc _).mp h)

theorem jumpCond_of_not_holds (h : ¬ conditionHolds cc s.cpu.f) (w len : Word) (m taken : Nat) :
    jumpCond cc w len m taken s = .next (s.withCpu (s.cpu.retire len m)) := if_neg (mt (conditionHolds_iff cc _).mpr h)

theorem callCond_of_holds (h : conditionHolds cc s.cpu.f) (nn : Word) : callCond cc nn s = callTo nn 3 6 s :=
  if_pos ((conditionHolds_iff cc _).mp h)

theorem callCond_of_not_holds (h : ¬ conditionHolds cc s.cpu.f) (nn : Word) :
    callCond cc nn s = .next (s.withCpu (s.cpu.retire 3 3)) := if_neg (mt (conditionHolds_iff cc _).mpr h)

theorem retCond_of_holds (h : conditionHolds cc s.cpu.f) : retCond cc s = retTo 5 s :=
  if_pos ((conditionHolds_iff cc _).mp h)

theorem retCond_of_not_holds (h : ¬ conditionHolds cc s.cpu.f) :
    retCond cc s = .next (s.withCpu (s.cpu.retire 1 2)) := if_neg (mt (conditionHolds_iff cc _).mpr h)

end Condition

/-! ### Jumps -/

/-- The displacement counts from the following instruction (R148, R304). -/
theorem relTarget_eq (n : Byte) (s : State) : relTarget n s = displaced (s.cpu.pc + 2) n := add_sext16 _ n

/-- Settles O34: the meanings only replace the CPU, and the relative target is the displaced address. -/
theorem jumps : Obligations.Jumps := by
  intro n nn s
  rw [← relTarget_eq]
  exact ⟨cpuOnly_of_exec rfl, cpuOnly_of_exec rfl, cpuOnly_of_exec rfl⟩

/-- Settles O35: the condition decides between the jump and the retirement. -/
theorem conditionalJumps : Obligations.ConditionalJumps := by
  intro cc n nn s
  rw [← relTarget_eq]
  refine ⟨fun h => ⟨cpuOnly_of_exec ?_, cpuOnly_of_exec ?_⟩, fun h => ⟨cpuOnly_of_exec ?_, cpuOnly_of_exec ?_⟩⟩
  · exact (exec_jpCond cc nn s).trans (jumpCond_of_holds h ..)
  · exact (exec_jrCond cc n s).trans (jumpCond_of_holds h ..)
  · exact (exec_jpCond cc nn s).trans (jumpCond_of_not_holds h ..)
  · exact (exec_jrCond cc n s).trans (jumpCond_of_not_holds h ..)

/-! ### Calls -/

/-- A call is a push of the return address and then a jump (R306). -/
theorem storesWord_of_callTo {i : Instr} {s : State} {w len : Word} {m : Nat} (h : exec i s = callTo w len m s) :
    StoresWord i s (s.cpu.sp - 2) (s.cpu.pc + len) { s.cpu with sp := s.cpu.sp - 2, pc := w, mcycles := m } :=
  storesWord_of_push (·.jump w m) h

/-- Settles O36: CALL and RST are one call with their own target and cost; the condition decides whether CALL cc is. -/
theorem calls : Obligations.Calls := fun cc r nn s =>
  ⟨storesWord_of_callTo rfl, storesWord_of_callTo (exec_rst r s),
    fun h => storesWord_of_callTo ((exec_callCond cc nn s).trans (callCond_of_holds h nn)),
    fun h => cpuOnly_of_exec ((exec_callCond cc nn s).trans (callCond_of_not_holds h nn))⟩

/-! ### Returns -/

/-- Settles O37: a return only replaces the CPU, taking PC from the top of the stack; the condition decides whether RET
cc is one. -/
theorem returns : Obligations.Returns := fun cc s =>
  ⟨cpuOnly_of_exec rfl, fun h => cpuOnly_of_exec ((exec_retCond cc s).trans (retCond_of_holds h)),
    fun h => cpuOnly_of_exec ((exec_retCond cc s).trans (retCond_of_not_holds h))⟩

/-- After a call whose return address goes to ordinary stack bytes, that address is on top of the stack, and dropping it
gives back every register but PC (R306, R308). -/
theorem stack_after_call {i : Instr} {s : State} {w ret : Word} {m : Nat}
    (h : StoresWord i s (s.cpu.sp - 2) ret { s.cpu with sp := s.cpu.sp - 2, pc := w, mcycles := m })
    (hm : Canonical s) (hk : keepsByte s (s.cpu.sp - 2) = true) (hk1 : keepsByte s (s.cpu.sp - 2 + 1) = true)
    (hne : mayChange (s.cpu.sp - 2 + 1) (s.cpu.sp - 2) = false) :
    ∃ t, exec i s = .next t ∧ popWord t = ret ∧ t.cpu.popped = { s.cpu with pc := w, mcycles := m } := by
  obtain ⟨t, ht, hcpu, htop⟩ := readsBack_of_storesWord h hm hk hk1 hne
  refine ⟨t, ht, ?_, ?_⟩
  · rw [popWord, hcpu]
    exact htop
  · rw [hcpu, Cpu.popped, BitVec.sub_add_cancel]

/-- Settles O38: each call leaves its return address on top of the stack, where RET and RETI take PC from. -/
theorem callThenReturn : Obligations.CallThenReturn := by
  intro r nn s hm hk hk1 hne
  obtain ⟨hcall, hrst, -⟩ := calls .z r nn s
  obtain ⟨t, ht, htop, hpop⟩ := stack_after_call hcall hm hk hk1 hne
  obtain ⟨t', ht', htop', hpop'⟩ := stack_after_call hrst hm hk hk1 hne
  refine ⟨⟨t, _, ht, rfl, ?_⟩, ⟨t', _, ht', rfl, ?_⟩, ⟨t, _, ht, rfl, ?_⟩⟩
  · change t.cpu.popped.jump (popWord t) 4 = _
    rw [hpop, htop, Cpu.jump]
  · change t'.cpu.popped.jump (popWord t') 4 = _
    rw [hpop', htop', Cpu.jump]
  · change t.cpu.returnTo (popWord t) 4 = _
    rw [Cpu.returnTo, hpop, htop, Cpu.jump]

/-! ### The system instructions -/

/-- Settles O39: the meanings only replace the CPU. -/
theorem systemInstructions : Obligations.SystemInstructions := fun _ =>
  ⟨cpuOnly_of_exec rfl, cpuOnly_of_exec rfl, cpuOnly_of_exec rfl, cpuOnly_of_exec rfl, cpuOnly_of_exec rfl⟩

end Sys2Proof.Proofs.Control
end

section
/-! PROOF. The statement about the halted machine (spec 60_exceptions.md R401, 46_system.md R322): the idle machine
cycle, the wake and the dispatch. -/

namespace Sys2Proof.Proofs.Halted

open Sys2Proof Sys2Proof.Machine Sys2Proof.Safety Sys2Proof.Laws Sys2Proof.Proofs.Encoding

/-! ### The idle machine cycle -/

/-- The picture processing unit's advance does not look at the CPU and does not touch it. -/
theorem ppuAdvance_withCpu (s : State) (k : Cpu) (e : Nat) :
    ppuAdvance (s.withCpu k) e = (ppuAdvance s e).withCpu k := by
  rw [ppuAdvance, ppuAdvance, state_withCpu_ppu]
  obtain ⟨p, _ | _, _ | _⟩ := s.ppu.advance e <;> rfl

/-- The timer's advance does not look at the CPU and does not touch it. -/
theorem timerAdvance_withCpu (s : State) (k : Cpu) (e : Nat) :
    timerAdvance (s.withCpu k) e = (timerAdvance s e).withCpu k := by
  rw [timerAdvance, timerAdvance, state_withCpu_timer]
  cases s.timer.overflowPending <;> rfl

/-- An idle machine cycle is 4 clock edges of the peripherals (R11, R401). -/
theorem advancePeripherals_idleStep (s : State) : advancePeripherals (idleStep s) =
    (timerAdvance (ppuAdvance s 4) 4).withCpu { s.cpu with mcycles := 1 } := by
  change timerAdvance (ppuAdvance (s.withCpu { s.cpu with mcycles := 1 }) 4) 4 = _
  rw [ppuAdvance_withCpu, timerAdvance_withCpu]

/-- A halted step fetches nothing: its CPU part is the idle machine cycle (R401). -/
theorem step_of_halted {s : State} (hrun : s.stopped = none) (hhalt : s.cpu.halted = true) :
    step s = endMacroStep (idleStep s) := by
  rw [step, hrun, cpuStep, if_pos hhalt, afterCpu]

/-! ### The interrupt evaluation, case by case -/

theorem lowestSource_eq_none_iff (pend : BitVec 5) : lowestSource pend = none ↔ pend = 0 := by
  revert pend
  decide

/-- Nothing pending and enabled: the evaluation does nothing (R358). -/
theorem interruptEvaluation_of_not_pending {s : State} (h : s.pendingMask = 0) : interruptEvaluation s = .ok s := by
  rw [interruptEvaluation, (lowestSource_eq_none_iff _).mpr h]

/-- A pending enabled request ends HALT, and IME decides whether it is taken as well (R359, R360). -/
theorem interruptEvaluation_of_pending {s : State} (h : s.pendingMask ≠ 0) :
    ∃ i, interruptEvaluation s =
      if s.cpu.ime then takeInterrupt (s.withCpu { s.cpu with halted := false }) i
      else .ok (s.withCpu { s.cpu with halted := false }) := by
  obtain ⟨i, hi⟩ := Option.ne_none_iff_exists'.mp (mt (lowestSource_eq_none_iff _).mp h)
  exact ⟨i, by rw [interruptEvaluation, hi]⟩

/-- Taking an interrupt replaces IME, SP and PC, unless the push of PC is fatal (R360, R362, R343). -/
theorem takeInterrupt_cases (s : State) (i : IrqSource) :
    (∃ w : State, takeInterrupt s i =
      .ok (w.withCpu { s.cpu with ime := false, sp := s.cpu.sp - 2, pc := i.vector })) ∨
    ∃ n, takeInterrupt s i = .error (.bankIndexOutOfRange n) := by
  rw [takeInterrupt_eq]
  cases hw : memWrite16 { s with mmu := { s.mmu with irq := s.mmu.irq &&& ~~~i.mask } } (s.cpu.sp - 2) s.cpu.pc with
  | ok w => exact .inl ⟨w, rfl⟩
  | error f =>
    obtain ⟨n, rfl⟩ := memWrite16_bankFaultsOnly _ _ _ f hw
    exact .inr ⟨n, rfl⟩

/-! ### The end of a macro-step -/

theorem endMacroStep_of_ok {c u : State} (h : interruptEvaluation (advancePeripherals c) = .ok u) :
    endMacroStep c = .next (hostDrain u) := by
  rw [endMacroStep, h]

theorem endMacroStep_of_error {c : State} {f : Fault} (h : interruptEvaluation (advancePeripherals c) = .error f) :
    endMacroStep c = .fault f := by
  rw [endMacroStep, h]

/-- Settles O49: the step is the idle machine cycle and the interrupt evaluation of what it leaves, which does nothing,
only wakes, or takes the interrupt. -/
theorem haltedStep : Obligations.HaltedStep := by
  intro s hrun hhalt q
  have hq : advancePeripherals (idleStep s) = q := advancePeripherals_idleStep s
  have hok : ∀ {u}, interruptEvaluation q = .ok u → step s = .next (hostDrain u) := fun h =>
    (step_of_halted hrun hhalt).trans (endMacroStep_of_ok (hq ▸ h))
  refine ⟨fun hnone => hok (interruptEvaluation_of_not_pending hnone), fun hpend hime => ?_, fun hpend hime => ?_⟩
  · obtain ⟨_, heval⟩ := interruptEvaluation_of_pending hpend
    exact hok (heval.trans (if_neg (ne_true_of_eq_false hime)))
  · obtain ⟨i, heval⟩ := interruptEvaluation_of_pending hpend
    replace heval := heval.trans (if_pos hime)
    obtain ⟨w, hw⟩ | ⟨n, hn⟩ := takeInterrupt_cases (q.withCpu { q.cpu with halted := false }) i
    · exact .inl ⟨_, heval.trans hw, hok (heval.trans hw), rfl, rfl, rfl⟩
    · exact .inr ⟨n, (step_of_halted hrun hhalt).trans (endMacroStep_of_error (hq ▸ heval.trans hn))⟩

end Sys2Proof.Proofs.Halted
end

section
/-! PROOF. The statements about what goes on beside the instructions (spec 60_exceptions.md): the interrupt evaluation,
the costs of the cycle tables, the timer's advance, and the phase machine's advance with the requests it makes. -/

namespace Sys2Proof.Proofs.Exceptions

open Sys2Proof Sys2Proof.Machine Sys2Proof.Safety Sys2Proof.Laws Sys2Proof.Proofs.Scope Sys2Proof.Proofs.MachineState
  Sys2Proof.Proofs.Encoding Sys2Proof.Proofs.Halted

/-! ### The interrupt evaluation -/

/-- The source of the lowest bit set in a mask is the one with that bit's number (R350, R361). -/
theorem lowestSource_of_lowest {pend : BitVec 5} {i : Fin 5} (hi : pend.getLsbD i.val = true)
    (hlow : ∀ j < i, pend.getLsbD j.val = false) : ∃ src, lowestSource pend = some src ∧ src.index = i.val := by
  revert pend i
  decide

theorem vector_eq (src : IrqSource) : src.vector = BitVec.ofNat 16 (0x40 + 8 * src.index) := by cases src <;> rfl

/-- The state an interrupt is taken from: its request is cleared (R360). -/
def requestCleared (s : State) (src : IrqSource) : State :=
  { s with mmu := { s.mmu with irq := s.mmu.irq &&& ~~~src.mask } }

/-- The CPU after an interrupt is taken: awake, at the vector, with IME cleared and PC's word below SP (R359, R360). -/
def dispatched (k : Cpu) (src : IrqSource) : Cpu :=
  { k with halted := false, ime := false, sp := k.sp - 2, pc := src.vector }

/-- With IME set, the evaluation pushes PC from the state with the lowest source's request cleared; unless the push is
fatal, the CPU is at the vector (R359, R360, R362). -/
theorem interruptEvaluation_of_lowest {s : State} {src : IrqSource} (hsrc : lowestSource s.pendingMask = some src)
    (hime : s.cpu.ime = true) :
    interruptEvaluation s =
      (memWrite16 (requestCleared s src) (s.cpu.sp - 2) s.cpu.pc).map (·.withCpu (dispatched s.cpu src)) := by
  calc interruptEvaluation s
      = takeInterrupt (s.withCpu { s.cpu with halted := false }) src := by
        rw [interruptEvaluation, hsrc]
        exact if_pos hime
    _ = (memWrite16 ((requestCleared s src).withCpu { s.cpu with halted := false }) (s.cpu.sp - 2) s.cpu.pc).map
          (·.withCpu (dispatched s.cpu src)) := takeInterrupt_eq _ _
    _ = _ := by
        rw [memWrite16_withCpu]
        cases memWrite16 (requestCleared s src) (s.cpu.sp - 2) s.cpu.pc <;> rfl

/-- Settles O48: nothing pending, the wake, and the dispatch of the lowest source, whose push is the bus write that the
bank controller accepts or rejects. -/
theorem interruptDispatch : Obligations.InterruptDispatch := by
  intro s
  refine ⟨interruptEvaluation_of_not_pending, fun hpend hime => ?_, ?_⟩
  · obtain ⟨_, heval⟩ := interruptEvaluation_of_pending hpend
    exact heval.trans (if_neg (ne_true_of_eq_false hime))
  · intro i hi hlow hime s1 k
    obtain ⟨src, hsrc, hindex⟩ := lowestSource_of_lowest hi hlow
    have heval := interruptEvaluation_of_lowest hsrc hime
    rw [requestCleared, dispatched, vector_eq, IrqSource.mask, hindex] at heval
    refine ⟨fun hacc => ?_, fun n hrej => ?_⟩
    · obtain ⟨t, ht⟩ := memWrite16_of_accepted hacc
      exact ⟨t, ht, heval.trans (congrArg _ ht), kept_withCpu s.cpu k (memWrite16_kept ht).1⟩
    · exact heval.trans (congrArg _ (memWrite16_of_rejected hrej))

/-! ### The costs of the cycle tables -/

/-- If the result is a next state, it reports the cost `c` (R400). -/
def Costs (c : Option Nat) (r : Result) : Prop := ∀ t, r = .next t → c = some t.cpu.mcycles

theorem costs_fault {c : Option Nat} {f : Fault} : Costs c (.fault f) := fun _ h => nomatch h

theorem costs_cpu {c : Option Nat} {s : State} {k : Cpu} (h : c = some k.mcycles) : Costs c (.next (s.withCpu k)) := by
  rintro _ ⟨⟩
  exact h

/-- After a bus access, the cost is that of the CPU the instruction ends with. -/
theorem costs_afterWrite {c : Option Nat} {w : Except Fault State} {g : State → Cpu}
    (h : ∀ u, c = some (g u).mcycles) : Costs c (afterWrite w fun u => u.withCpu (g u)) := by
  cases w with
  | error f => exact costs_fault
  | ok u => exact costs_cpu (h u)

/-- A conditional transfer has the cost of the branch its condition selects (R461). -/
theorem costs_ite {c c' : Option Nat} {r r' : Result} {p : Prop} [Decidable p] (h : Costs c r) (h' : Costs c' r') :
    Costs (if p then c else c') (if p then r else r') := by
  split
  · exact h
  · exact h'

/-- The cost an instruction reports is the tables' entry of its own first two bytes (R460 to R462). -/
def CostsItsEntry (i : Instr) (s : State) : Prop :=
  Costs (tableCost (firstByte i) ((encode i).getD 1 0) s.cpu.f) (exec i s)

/-- The entry, by the bytes of the encoding. -/
theorem costsItsEntry_of_encode {i : Instr} {s : State} {op : Byte} {rest : List Byte} {c : Option Nat}
    (he : encode i = op :: rest) (hc : tableCost op (rest.getD 0 0) s.cpu.f = c) (h : Costs c (exec i s)) :
    CostsItsEntry i s := by
  rw [CostsItsEntry, firstByte, he]
  exact hc ▸ h

/-- A conditional transfer: the taken and the not-taken entry, by the condition (R460, R461). -/
theorem costsItsEntry_of_cond {i : Instr} {s : State} {op : Byte} {rest : List Byte} {cc : Cond} {r r' : Result}
    (he : encode i = op :: rest) (hcb : op ≠ 0xCB) (hcc : transferCond op = some cc)
    (hexec : exec i s = if s.cpu.f.cond cc then r else r')
    (h : Costs (mcyclesTaken op) r) (h' : Costs (mcyclesNotTaken op) r') : CostsItsEntry i s := by
  refine costsItsEntry_of_encode he ?_ (hexec ▸ costs_ite h h')
  rw [tableCost, if_neg hcb, hcc]

/-- Every instruction with a meaning of its own reports its entry: the stops answer no state, a conditional transfer
reports the cost of its branch, and all others one cost, after a bus write or none. -/
theorem exec_costs {i : Instr} (hwf : i.wellFormed = true) (s : State) : CostsItsEntry i s := by
  cases i with
  | prefix_CB => exact absurd hwf (by decide)
  | stop | reserved_D3 | reserved_DB | reserved_DD | reserved_E3 | reserved_E4 | reserved_EB | reserved_EC
  | reserved_ED | reserved_F4 | reserved_FC | reserved_FD => exact costsItsEntry_of_encode rfl rfl costs_fault
  | jr_NZ_e | jr_Z_e | jr_NC_e | jr_C_e | jp_NZ_nn | jp_Z_nn | jp_NC_nn | jp_C_nn
  | ret_NZ | ret_Z | ret_NC | ret_C =>
    exact costsItsEntry_of_cond rfl (by decide) rfl rfl (costs_cpu rfl) (costs_cpu rfl)
  | call_NZ_nn | call_Z_nn | call_NC_nn | call_C_nn =>
    exact costsItsEntry_of_cond rfl (by decide) rfl rfl (costs_afterWrite fun _ => rfl) (costs_cpu rfl)
  | ld_atBC_A | ld_atDE_A | ld_atHLi_A | ld_atHLd_A | ld_atHL_n | ldh_atn_A | ldh_atC_A | ld_atnn_A
  | ld_atHL_B | ld_atHL_C | ld_atHL_D | ld_atHL_E | ld_atHL_H | ld_atHL_L | ld_atHL_A | ld_atnn_SP
  | push_BC | push_DE | push_HL | push_AF | call_nn
  | rst_00 | rst_08 | rst_10 | rst_18 | rst_20 | rst_28 | rst_30 | rst_38 | inc_atHL | dec_atHL
  | rlc_atHL | rrc_atHL | rl_atHL | rr_atHL | sla_atHL | sra_atHL | swap_atHL | srl_atHL
  | res_0_atHL | res_1_atHL | res_2_atHL | res_3_atHL | res_4_atHL | res_5_atHL | res_6_atHL | res_7_atHL
  | set_0_atHL | set_1_atHL | set_2_atHL | set_3_atHL | set_4_atHL | set_5_atHL | set_6_atHL | set_7_atHL =>
    exact costsItsEntry_of_encode rfl rfl (costs_afterWrite fun _ => rfl)
  | _ => exact costsItsEntry_of_encode rfl rfl (costs_cpu rfl)

/-- The second byte decides the cost only behind 0xCB, where the encoding keeps it. -/
theorem tableCost_decodeBytes (b0 b1 b2 : Byte) (f : Flags) :
    tableCost b0 ((encode (decodeBytes b0 b1 b2)).getD 1 0) f = tableCost b0 b1 f := by
  unfold tableCost
  split
  · next h =>
    rw [decodeBytes, if_pos h, encode_decodeExt]
    rfl
  · rfl

/-- Settles O52: the decoded instruction reports the entry of its own bytes, which are those it was decoded from. -/
theorem costIsTheTableEntry : Obligations.CostIsTheTableEntry := by
  intro b0 b1 b2 s t ht
  have h := exec_costs (decodeBytes_wellFormed b0 b1 b2) s t ht
  rwa [firstByte_decodeBytes, tableCost_decodeBytes] at h

/-! ### The timer's advance -/

/-- The increments of an advance are the multiples of the divisor crossed, at each setting of TAC (R382, R383). -/
theorem increments_eq (t : Timer) (e : Nat) : t.increments t.div16.toNat (t.div16.toNat + e) = timerTicks t e := by
  obtain ⟨div16, tima, tma, ⟨⟨tac, htac⟩⟩, pending⟩ := t
  interval_cases tac <;> simp [Timer.increments, timerTicks, timerDivisor]

/-- The delayed reload does not change how often the counter increments. -/
theorem increments_serveOverflow (t : Timer) (e : Nat) :
    t.serveOverflow.increments t.div16.toNat (t.div16.toNat + e) = timerTicks t e := by
  rw [← increments_eq, Timer.serveOverflow]
  split <;> rfl

/-- The delayed reload, then the increments counted up from the value it left (R382). -/
theorem timer_advance_eq (t : Timer) (e : Nat) :
    t.advance e =
      { t.serveOverflow with
        div16 := BitVec.ofNat 16 (t.div16.toNat + e)
        tima := BitVec.ofNat 8 (t.serveOverflow.tima.toNat + timerTicks t e)
        overflowPending :=
          t.serveOverflow.overflowPending || decide (t.serveOverflow.tima.toNat + timerTicks t e ≥ 256) } := by
  rw [Timer.advance, divStep, Nat.div_one, increments_serveOverflow, countUp_eq]

/-- Settles O54: the pending reload is served first, and the counter then goes up by the increments. -/
theorem timerAdvances : Obligations.TimerAdvances := by
  intro s e t base k
  rw [timerAdvance, timer_advance_eq]
  cases h : s.timer.overflowPending with
  | false => simp [Timer.serveOverflow, h, t, base, k]
  | true => simp [Timer.serveOverflow, h, t, base, k, State.request, IrqSource.mask, IrqSource.index]

/-! ### The place in the frame and the two requests -/

/-- A transition keeps the place, with the end of the frame read as its start (R404 to R406). -/
theorem transition_framePosition {p : Ppu} (hl : p.line.toNat ≤ 153) (hv : p.phase = .vblank ↔ 144 ≤ p.line.toNat)
    (hlo : phaseBudget p.phase ≤ p.dot) (hhi : p.dot < phaseBudget p.phase + 80) :
    framePosition p.transition.1 = framePosition p % frameEdges := by
  unfold Ppu.transition framePosition frameEdges
  cases hp : p.phase with
  | oamScan =>
    simp only [hp, phaseBudget, oamBudget, reduceCtorEq, false_iff] at hv hlo hhi
    simp only [Ppu.enterVramScan, oamBudget]
    omega
  | vramScan =>
    simp only [hp, phaseBudget, vramBudget, reduceCtorEq, false_iff] at hv hlo hhi
    simp only [Ppu.enterHblank, Ppu.renderLine, vramBudget]
    omega
  | hblank =>
    have hbudget : hblankBudget = 204 := rfl
    simp only [hp, phaseBudget, reduceCtorEq, false_iff] at hv hlo hhi
    simp only [Ppu.leaveHblank]
    split
    · next h =>
      simp only [h, BitVec.reduceToNat]
      omega
    · simp only [toNat_line_succ (show p.line.toNat < 255 by omega)]
      omega
  | vblank =>
    have hbudget : vblankLineBudget = 456 := rfl
    simp only [hp, phaseBudget, true_iff] at hv hlo hhi
    simp only [Ppu.endVblankLine]
    split
    · next h =>
      simp only [h, BitVec.reduceToNat]
      omega
    · next h =>
      have hne : p.line.toNat ≠ 153 := fun h' => h (BitVec.eq_of_toNat_eq h')
      simp only [hp, toNat_line_succ (show p.line.toNat < 255 by omega)]
      omega

theorem framePosition_lt {p : Ppu} (h : ScanInv p) : framePosition p < frameEdges := by
  have hline := h.line
  rw [← framePosition_div h] at hline
  unfold frameEdges
  omega

/-- Vertical blank is entered from the horizontal blank of line 143 (R404, R407). -/
theorem transition_enteredVblank (p : Ppu) :
    p.transition.2.enteredVblank = true ↔ p.phase = .hblank ∧ p.line = 143 := by
  unfold Ppu.transition
  cases hp : p.phase with
  | oamScan | vramScan => simp [Ppu.enterVramScan, Ppu.enterHblank]
  | hblank => simp only [Ppu.leaveHblank]; split <;> simpa
  | vblank => simp only [Ppu.endVblankLine]; split <;> simp

/-- The four conditions of the LCD-status request, each gated by its enable bit (R408). -/
def StatusRequested (p q : Ppu) : Prop :=
  (p.phase = .vramScan ∧ q.phase = .hblank ∧ p.statEn.getLsbD 0 = true) ∨
  (p.phase = .hblank ∧ q.phase = .vblank ∧ p.statEn.getLsbD 1 = true) ∨
  (p.phase ≠ .oamScan ∧ q.phase = .oamScan ∧ p.statEn.getLsbD 2 = true) ∨
  (q.line ≠ p.line ∧ q.line = p.lyc ∧ p.statEn.getLsbD 3 = true)

/-- A transition makes the request exactly under these conditions. -/
theorem transition_lcdStatus (p : Ppu) :
    p.transition.2.lcdStatus = true ↔ StatusRequested p p.transition.1 := by
  unfold Ppu.transition StatusRequested
  cases hp : p.phase with
  | oamScan => simp [Ppu.enterVramScan]
  | vramScan => simp [Ppu.enterHblank, Ppu.renderLine]
  | hblank => simp only [Ppu.leaveHblank]; split <;> simp [Ppu.lycRequest, *]
  | vblank => simp only [Ppu.endVblankLine]; split <;> simp [Ppu.lycRequest, *]

/-! ### An advance by the cost of a step -/

section Advance

variable {p : Ppu} {e : Nat} (h : ScanInv p) (he : e ≤ 24)

include h he

/-- It only moves the dot, or it makes the one transition that is due (R404, R463). -/
theorem advance_cases :
    (p.dot + e < phaseBudget p.phase ∧ p.advance e = ({ p with dot := p.dot + e }, ⟨false, false⟩)) ∨
      (phaseBudget p.phase ≤ p.dot + e ∧ p.advance e = Ppu.transition { p with dot := p.dot + e }) := by
  rcases Nat.lt_or_ge (p.dot + e) (phaseBudget p.phase) with hb | hb
  · exact .inl ⟨hb, advance_within hb⟩
  · exact .inr ⟨hb, advance_across h.dot he hb⟩

theorem advance_scanInv : ScanInv (p.advance e).1 := by
  obtain ⟨hl, hv, hd⟩ := h
  obtain ⟨hb, hadv⟩ | ⟨hb, hadv⟩ := advance_cases ⟨hl, hv, hd⟩ he <;> rw [hadv]
  · exact ⟨hl, hv, hb⟩
  · obtain ⟨hl', hv'⟩ := transition_line (p := { p with dot := p.dot + e }) hl hv
    have hbudget := budget_ge (Ppu.transition { p with dot := p.dot + e }).1.phase
    refine ⟨hl', hv', ?_⟩
    rw [transition_dot]
    simp only
    omega

/-- The start of line 144 is crossed when the horizontal blank of line 143 is left (R406). -/
theorem crosses_vblank_iff :
    framePosition p < 144 * 456 ∧ 144 * 456 ≤ framePosition p + e ↔
      phaseBudget p.phase ≤ p.dot + e ∧ p.phase = .hblank ∧ p.line = 143 := by
  have h143 : p.line = 143 ↔ p.line.toNat = 143 := BitVec.toNat_inj.symm
  obtain ⟨-, hv, hd⟩ := h
  rw [h143]
  unfold framePosition
  cases hp : p.phase <;>
    simp only [hp, phaseBudget, oamBudget, vramBudget, hblankBudget, vblankLineBudget, reduceCtorEq, true_iff,
      false_iff, iff_false, true_and, false_and, and_false] at hv hd ⊢ <;>
    omega

/-- Vertical blank is entered when the start of line 144 is crossed (R404, R407). -/
theorem enteredVblank_iff :
    (p.advance e).2.enteredVblank = true ↔ framePosition p < 144 * 456 ∧ 144 * 456 ≤ framePosition p + e := by
  rw [crosses_vblank_iff h he]
  obtain ⟨hb, hadv⟩ | ⟨hb, hadv⟩ := advance_cases h he <;> rw [hadv]
  · simp [Nat.not_le_of_lt hb]
  · rw [transition_enteredVblank]
    simp [hb]

theorem framePosition_advance : framePosition (p.advance e).1 = (framePosition p + e) % frameEdges := by
  obtain ⟨hl, hv, hd⟩ := h
  have hmove : framePosition { p with dot := p.dot + e } = framePosition p + e := by
    unfold framePosition
    cases p.phase <;> simp only <;> omega
  rw [← hmove]
  obtain ⟨hb, hadv⟩ | ⟨hb, hadv⟩ := advance_cases ⟨hl, hv, hd⟩ he <;> rw [hadv]
  · exact (Nat.mod_eq_of_lt (framePosition_lt (p := { p with dot := p.dot + e }) ⟨hl, hv, hb⟩)).symm
  · exact transition_framePosition hl hv hb (by simp only; omega)

/-- The LCD-status request, by the phase and the line before and after (R408). -/
theorem lcdStatus_iff : (p.advance e).2.lcdStatus = true ↔ StatusRequested p (p.advance e).1 := by
  obtain ⟨-, hadv⟩ | ⟨-, hadv⟩ := advance_cases h he <;> rw [hadv]
  · cases hp : p.phase <;> simp [StatusRequested, hp]
  · exact transition_lcdStatus { p with dot := p.dot + e }

end Advance

/-! ### The advance on the machine -/

theorem getLsbD_mask_iff (src : IrqSource) (b : Nat) : src.mask.getLsbD b = true ↔ b = src.index := by
  have hmask : src.mask = BitVec.twoPow 5 src.index := (BitVec.twoPow_eq 5 src.index).symm
  rw [hmask, BitVec.getLsbD_twoPow]
  cases src <;> simp [IrqSource.index, eq_comm]

/-- The two requests are IF bits 0 and 1 (R350 to R353). -/
theorem ppuAdvance_irq (s : State) (e b : Nat) :
    (ppuAdvance s e).mmu.irq.getLsbD b =
      (s.mmu.irq.getLsbD b || ((s.ppu.advance e).2.lcdStatus && decide (b = 1)) ||
        ((s.ppu.advance e).2.enteredVblank && decide (b = 0))) := by
  rw [ppuAdvance, Bool.eq_iff_iff]
  obtain ⟨p, _ | _, _ | _⟩ := s.ppu.advance e <;> simp [getLsbD_mask_iff, IrqSource.index]

theorem ppuAdvance_presented (s : State) (e : Nat) :
    (ppuAdvance s e).host.presented =
      if (s.ppu.advance e).2.enteredVblank then some (s.ppu.advance e).1.frame else s.host.presented := by
  rw [ppuAdvance]
  obtain ⟨p, _ | _, _ | _⟩ := s.ppu.advance e <;> rfl

/-- Nothing but the unit's own state, IF and the frame handed over changes (R404, R420). -/
theorem ppuAdvance_eq (s : State) (e : Nat) :
    ppuAdvance s e =
      { s with
        ppu := (ppuAdvance s e).ppu
        mmu := { s.mmu with irq := (ppuAdvance s e).mmu.irq }
        host := { s.host with presented := (ppuAdvance s e).host.presented } } := by
  rw [ppuAdvance]
  obtain ⟨p, _ | _, _ | _⟩ := s.ppu.advance e <;> rfl

/-- Settles O55: the place moves with the dot or by the one transition, and the two outputs follow the entry to vertical
blank, which is at the start of line 144. -/
theorem ppuKeepsTime : Obligations.PpuKeepsTime := by
  intro s e h he t
  obtain ⟨-, -, -, -, -, -, hppu, -⟩ := ppuAdvance_kept s e
  have hirq : t.mmu.irq.getLsbD 0 = (s.mmu.irq.getLsbD 0 || (s.ppu.advance e).2.enteredVblank) := by
    simpa using ppuAdvance_irq s e 0
  rw [hirq, ppuAdvance_presented, hppu]
  refine ⟨advance_scanInv h he, framePosition_advance h he, fun hlo hhi => ?_, fun hnot => ?_⟩
  · have hentered := (enteredVblank_iff h he).mpr ⟨hlo, hhi⟩
    simp [hentered]
  · have hentered := mt (enteredVblank_iff h he).mp hnot
    simp [hentered]

/-- Settles O56: the one transition makes the request under its conditions, and a request sets its own bit of IF. -/
theorem lcdStatusRequests : Obligations.LcdStatusRequests := by
  intro s e h he p t made
  obtain ⟨-, -, -, -, -, -, hppu, -⟩ := ppuAdvance_kept s e
  have hmade := lcdStatus_iff h he
  rw [← hppu] at hmade
  change _ ↔ made at hmade
  have hirq : t.mmu.irq.getLsbD 1 = (s.mmu.irq.getLsbD 1 || (p.advance e).2.lcdStatus) := by
    simpa using ppuAdvance_irq s e 1
  refine ⟨hppu, hmade, fun hm => ?_, fun hn => ?_, fun b hb => ?_, ppuAdvance_eq s e⟩
  · rw [hirq, hmade.mpr hm, Bool.or_true]
  · rw [hirq, eq_false_of_ne_true (mt hmade.mp hn), Bool.or_false]
  · rw [ppuAdvance_irq, decide_eq_false (by omega), decide_eq_false (by omega)]
    simp

end Sys2Proof.Proofs.Exceptions
end
